-- ==== Sys2Proof/Word.lean ====
section
/-! DEFINITION. The plainest data of the model: bytes, tables of a fixed number of rows, and pairs with one value
for each player port. -/

namespace Sys2Proof

/-- One byte of a message on a player link, a tile link or the console. -/
abbrev Byte := BitVec 8

/-- A table of exactly `n` rows: the fixed groups of like records the manual numbers from 0 (streams, buffers, tiles,
triggers, lines). -/
structure Table (n : Nat) (α : Type) where
  rows : List α
  size : rows.length = n
  deriving DecidableEq, Repr

namespace Table

variable {n : Nat} {α β : Type}

/-- Row `i`. -/
def get (t : Table n α) (i : Fin n) : α := t.rows.get (i.cast t.size.symm)

/-- The table with row `i` replaced. -/
def set (t : Table n α) (i : Fin n) (x : α) : Table n α :=
  ⟨t.rows.set i.val x, by rw [List.length_set]; exact t.size⟩

/-- The table with row `i` changed by `f`. -/
def modify (t : Table n α) (i : Fin n) (f : α → α) : Table n α := t.set i (f (t.get i))

/-- Every row changed by `f`. -/
def map (t : Table n α) (f : α → β) : Table n β :=
  ⟨t.rows.map f, by rw [List.length_map]; exact t.size⟩

/-- Row `i` is `f i`. -/
def ofFn (f : Fin n → α) : Table n α := ⟨List.ofFn f, List.length_ofFn⟩

/-- Every row is `x`. -/
def fill (n : Nat) (x : α) : Table n α := ⟨List.replicate n x, List.length_replicate⟩

end Table

/-- `f 0`, then `f 1`, and so on: a change made for each of `n` numbered things in number order. -/
def forEach {σ : Type} (n : Nat) (f : Fin n → σ → σ) (s : σ) : σ :=
  (List.finRange n).foldl (fun s i => f i s) s

/-- One of the two player ports. -/
inductive PortId where
  | a | b
  deriving DecidableEq, Repr

namespace PortId

/-- The other player port. -/
def other : PortId → PortId
  | a => b
  | b => a

end PortId

/-- One value for each player port. -/
structure Both (α : Type) where
  a : α
  b : α
  deriving DecidableEq, Repr

namespace Both

variable {α : Type}

/-- The value of port `p`. -/
def get (x : Both α) : PortId → α
  | .a => x.a
  | .b => x.b

/-- The pair with port `p`'s value replaced. -/
def set (x : Both α) (p : PortId) (v : α) : Both α :=
  match p with
  | .a => { x with a := v }
  | .b => { x with b := v }

end Both

/-- `x + k`, stopped at `max` (00_scope: "A count called saturating stops at its stated maximum"). -/
def satAdd (max x k : Nat) : Nat := min max (x + k)

/-- The maximum of a saturating count where the manual states none (00_scope). -/
def countMax : Nat := 65535

/-- A saturating count increased by one. -/
def bump (x : Nat) : Nat := satAdd countMax x 1

end Sys2Proof
end

