-- ==== Sys2Proof/Syntax.lean ====
section
/-! DEFINITION. The commands the block takes: one constructor for each row of spec/opcode_table.json, with the
operands its event carries. -/

namespace Sys2Proof

/-- A stream S0..S7 (00_scope, Conventions). -/
abbrev StreamId := Fin 8
/-- A tile position 0..23. -/
abbrev TileId := Fin 24
/-- A frame buffer 0..47. -/
abbrev BufId := Fin 48
/-- A general line GL0..GL11. -/
abbrev LineId := Fin 12
/-- An interval timer 0 or 1. -/
abbrev TimerId := Fin 2
/-- A trigger 0..7. -/
abbrev TriggerId := Fin 8
/-- A layout 0..15. -/
abbrev LayoutId := Fin 16
/-- A store group G0..G9. -/
abbrev GroupId := Fin 10
/-- A request tag, chosen by the player (R170). -/
abbrev Tag := BitVec 16

/-- The commands. A request row is the whole arrival of its control message on player link `p`: the tag and the body
bytes of R170; the kind number is the row's own, but for READ_CLOCK (see there). -/
inductive Instr where
  /-- COLD_RESET: RESET is asserted (R179). -/
  | coldReset
  /-- RESET_RELEASE: RESET is released with `sel` on SEL0 to SEL2 (R179). -/
  | resetRelease (sel : BitVec 3)
  /-- STORE_LOAD_END: every store group has been read and judged (R183). -/
  | storeLoadEnd
  /-- MASK_SHIFT_IN_END: the 24th mask bit has been read; bit `j` of `mask` was read for position `j` (R181). -/
  | maskShiftInEnd (mask : BitVec 24)
  /-- FRAME_STORE_CHECK_END: the last buffer has been checked; bit `b` of `failed` is set for a buffer whose read
  differed (R182). -/
  | frameStoreCheckEnd (failed : BitVec 48)
  /-- CONSOLE_RATE_CHANGE: the current output line has been sent (R179). -/
  | consoleRateChange
  /-- SHOW_TICK: 1/60000 s has passed (R1). -/
  | showTick
  /-- BOUNDARY: the next boundary is announced; the controllers of the tiles in `early` act on it before the Cut
  Engine does, the others after it (R11, R121). -/
  | boundary (early : BitVec 24)
  /-- TEST_BOUNDARY: the next test boundary is announced; the controllers in `early` act before the console (R16). -/
  | testBoundary (early : BitVec 24)
  /-- PICK: the Frame Store Controller takes the oldest pick handed on for stream `st` (R84, R102). -/
  | pick (st : StreamId)
  /-- RELEASE: the release naming `buf` and `fill` arrives (R86). -/
  | release (buf : BufId) (fill : Nat)
  /-- FRAME_PACKET: a frame packet's header is taken (R79, R170): local stream byte, generation, content number,
  picture width and height. -/
  | framePacket (p : PortId) (stream gen : Byte) (number : BitVec 32) (width height : BitVec 16)
  /-- FRAME_ARRIVAL_END: the last picture byte is taken; `picture` is the bytes that came (R80). -/
  | frameArrivalEnd (p : PortId) (picture : List Byte)
  /-- UNFRAMEABLE_MESSAGE: an inbound message begins with `type` (R170). -/
  | unframeableMessage (p : PortId) (type : Byte)
  /-- LINK_UP: the player brings the link up (R156, R157). -/
  | linkUp (p : PortId)
  /-- LINK_CLOSED: the player closes the link (R156, R158). -/
  | linkClosed (p : PortId)
  /-- LINK_LOST: the player's end stops answering (R156, R158). -/
  | linkLost (p : PortId)
  /-- READINESS_MESSAGE: the link is free and a waiting readiness message is sent (R170). -/
  | readinessMessage (p : PortId)
  /-- READ_CLOCK. The row of 95_what_each_step_holds.md that also holds HEADER_REFUSAL: `kind` is the kind byte of
  the header, 01h for READ CLOCK itself. -/
  | readClock (p : PortId) (kind : Byte) (tag : Tag) (body : List Byte)
  | setClock (p : PortId) (tag : Tag) (body : List Byte)
  | configureWall (p : PortId) (tag : Tag) (body : List Byte)
  | run (p : PortId) (tag : Tag) (body : List Byte)
  | stop (p : PortId) (tag : Tag) (body : List Byte)
  | wipe (p : PortId) (tag : Tag) (body : List Byte)
  | postCue (p : PortId) (tag : Tag) (body : List Byte)
  /-- ADMISSION_COMPLETE: the granted admission ends (R26). -/
  | admissionComplete
  | cancelCue (p : PortId) (tag : Tag) (body : List Byte)
  /-- CANCEL_COMPLETE: the granted cancel ends (R31). -/
  | cancelComplete
  | cueStatus (p : PortId) (tag : Tag) (body : List Byte)
  | listCues (p : PortId) (tag : Tag) (body : List Byte)
  | releaseHold (p : PortId) (tag : Tag) (body : List Byte)
  /-- HOLD_LAPSE: the hold's lapse count has reached 0 (R36). -/
  | holdLapse
  | defineLayout (p : PortId) (tag : Tag) (body : List Byte)
  | readLayout (p : PortId) (tag : Tag) (body : List Byte)
  | readMap (p : PortId) (tag : Tag) (body : List Byte)
  | readAdvert (p : PortId) (tag : Tag) (body : List Byte)
  | configureStream (p : PortId) (tag : Tag) (body : List Byte)
  | readStream (p : PortId) (tag : Tag) (body : List Byte)
  | readIntegrity (p : PortId) (tag : Tag) (body : List Byte)
  /-- INTEGRITY_FAILURE: the dispatch read of tile `j` finds a mismatch (R88, R124). -/
  | integrityFailure (j : TileId)
  | readPlan (p : PortId) (tag : Tag) (body : List Byte)
  /-- DISPATCH_COMPLETE: the last part of tile `j`'s dispatch has been sent (R122). -/
  | dispatchComplete (j : TileId)
  /-- TILE_LINK_UP (R117). -/
  | tileLinkUp (j : TileId)
  /-- TILE_LINK_DOWN (R120). -/
  | tileLinkDown (j : TileId)
  /-- TILE_UNKNOWN_MESSAGE: a tile message begins with `type` (R171). -/
  | tileUnknownMessage (j : TileId) (type : Byte)
  /-- HELLO: tile `j` sends a hello carrying `depth` (R118, R171). -/
  | hello (j : TileId) (depth : Byte)
  /-- TRAINING_TIMEOUT: tile `j`'s training count has reached 0 (R119). -/
  | trainingTimeout (j : TileId)
  /-- REPORT: tile `j` reports `refresh` with the on-time flag (R125, R171). -/
  | report (j : TileId) (refresh : BitVec 40) (onTime : Bool)
  /-- SERVICE_BYTES: tile `j` sends bytes on its service channel (R130, R171). -/
  | serviceBytes (j : TileId) (bytes : List Byte)
  | reviveTile (p : PortId) (tag : Tag) (body : List Byte)
  | readTile (p : PortId) (tag : Tag) (body : List Byte)
  /-- RAW_LEVEL_CHANGE: line `l`'s pin is sampled at a new level, `high` or low (R134). -/
  | rawLevelChange (l : LineId) (high : Bool)
  /-- DEBOUNCE_END: line `l`'s debounce count has reached 0 (R134). -/
  | debounceEnd (l : LineId)
  /-- PULSE_END: line `l`'s pulse count has reached 0 (R135). -/
  | pulseEnd (l : LineId)
  | setLine (p : PortId) (tag : Tag) (body : List Byte)
  | readLines (p : PortId) (tag : Tag) (body : List Byte)
  | startTimer (p : PortId) (tag : Tag) (body : List Byte)
  | stopTimer (p : PortId) (tag : Tag) (body : List Byte)
  /-- TIMER_EXPIRY: timer `t`'s count has reached 0 (R139). -/
  | timerExpiry (t : TimerId)
  | setTrigger (p : PortId) (tag : Tag) (body : List Byte)
  | enableTriggers (p : PortId) (tag : Tag) (body : List Byte)
  | disableTriggers (p : PortId) (tag : Tag) (body : List Byte)
  | fireTriggers (p : PortId) (tag : Tag) (body : List Byte)
  | readTrigger (p : PortId) (tag : Tag) (body : List Byte)
  | clearError (p : PortId) (tag : Tag) (body : List Byte)
  | setErrorPolicy (p : PortId) (tag : Tag) (body : List Byte)
  | readNotices (p : PortId) (tag : Tag) (body : List Byte)
  | setNoticeMask (p : PortId) (tag : Tag) (body : List Byte)
  | stageStore (p : PortId) (tag : Tag) (body : List Byte)
  | programStore (p : PortId) (tag : Tag) (body : List Byte)
  /-- PROGRAMMING_END: the programming of a store group ends (R185). -/
  | programmingEnd
  | readStore (p : PortId) (tag : Tag) (body : List Byte)
  /-- CONSOLE_CHARACTER: the console receives a byte (R172). -/
  | consoleCharacter (c : Byte)
  /-- HELP, MAP, CUES, DESCRIPTION, LAYOUT, CONSOLE_RUN, CONSOLE_STOP, TEST and WRAP: the console takes the command a
  typed line names (R173 to R177). -/
  | help
  | map
  | cues
  | description
  | layout (number : Nat)
  | consoleRun
  | consoleStop
  | test
  /-- TEST_END: Ctrl-C in mode TEST (R176). -/
  | testEnd
  | wrap (number : Nat)
  /-- WRAP_END: Ctrl-D in mode WRAP (R177). -/
  | wrapEnd
  deriving DecidableEq, Repr

end Sys2Proof
end

