-- ==== Sys2Proof/Config.lean ====
section
/-! DEFINITION. The values the manual leaves open: constants with no body, so that nothing can be proved of their
values. -/

namespace Sys2Proof.Config

/-- The check value formed over a picture's bytes during a fill (R88). The manual does not say how it is formed
(log 9). UNVERIFIED, safe: a free value. -/
opaque checkValue : List Byte → Nat

/-- Byte `i` of the test picture that the controller of tile `j` generates for refresh `n` (R129). The manual does not
say what the picture shows (log 10). UNVERIFIED, safe: a free value. -/
opaque testByte : (j n i : Nat) → Byte

end Sys2Proof.Config
end

