-- ==== Sys2Proof/Machine/State.lean ====
section
/-! DEFINITION. The state of the part: every piece of state the manual gives each block, as plain data, and its value
right after cold reset. -/

namespace Sys2Proof.Machine

/-! ### Wall Timing (chapter 1) -/

/-- The wall state (R6, table of 1.3). -/
inductive WallState where
  | starting | halted | stopped | running | dark | testing
  deriving DecidableEq, Repr

/-- What Wall Timing holds, but for K, which belongs to the Cut Engine. -/
structure WallTiming where
  /-- show clock, 0..2^48−1 (R1) -/
  clock : Nat
  /-- wall rate Rw in Hz (R4) -/
  rate : Nat
  /-- horizon H, 0..6 (R4) -/
  horizon : Nat
  /-- epoch E (R9) -/
  epoch : Option Nat
  state : WallState
  /-- newest boundary number (R11) -/
  newest : Option Nat
  deriving DecidableEq, Repr

/-! ### Cues (chapter 2) -/

/-- End mode of an advert (R19). -/
inductive EndMode where
  | loop | hold
  deriving DecidableEq, Repr

/-- The kind of a cue with its parameters (R19). -/
inductive CueKind where
  | takeLayout (layout : LayoutId)
  | startAdvert (st : StreamId) (gen rate length : Nat) (mode : EndMode)
  | setLevel (target ramp : Nat)
  | goDark
  | wake
  | fireTriggers (mask : BitVec 8)
  deriving DecidableEq, Repr

/-- Late policy (R19). -/
inductive LatePolicy where
  | strict | slip
  deriving DecidableEq, Repr

/-- What a gated cue does when its patience runs out (R19, R98). -/
inductive OnTimeout where
  | force | drop
  deriving DecidableEq, Repr

/-- The gate of a cue; patience and on timeout are present when it is READY (R19). -/
inductive Gate where
  | none
  | ready (patience : Nat) (onTimeout : OnTimeout)
  deriving DecidableEq, Repr

/-- The four requesters of the admission arbiter (R23). -/
inductive Requester where
  | port (p : PortId) | console | trigger
  deriving DecidableEq, Repr

/-- The owner of a cue (R19). -/
inductive Owner where
  | port (p : PortId) | console | trigger (k : TriggerId)
  deriving DecidableEq, Repr

/-- One cue record (R19); a cue is ARMED while `waiting` is false and WAITING while it is true. -/
structure Cue where
  id : Nat
  owner : Owner
  kind : CueKind
  /-- due time T -/
  time : Nat
  /-- due refresh N, present while the wall is RUNNING or DARK -/
  due : Option Nat
  late : LatePolicy
  gate : Gate
  waiting : Bool
  seq : Nat
  deriving DecidableEq, Repr

/-- The outcome a retired cue leaves in the history (R22). -/
inductive CueOutcome where
  | applied | forced | dropped | superseded | cancelled | late
  deriving DecidableEq, Repr

/-- One entry of the cue history (R22). -/
structure HistoryEntry where
  id : Nat
  owner : Owner
  kind : CueKind
  outcome : CueOutcome
  refresh : Option Nat
  deriving DecidableEq, Repr

/-- The edit hold while a port holds it (R35). -/
structure Hold where
  holder : PortId
  /-- lapse count, 0..120,000 ticks -/
  lapse : Nat
  deriving DecidableEq, Repr

/-- The cue state of the Cut Engine (R42). -/
structure CueStore where
  list : List Cue
  history : List HistoryEntry
  nextId : Nat
  nextSeq : Nat
  hold : Option Hold
  /-- pending generation of each stream (R41) -/
  pendingGen : Table 8 (Option Nat)
  deriving DecidableEq, Repr

/-! ### The posts and claims that wait (2.3) -/

/-- The parameters of a post as carried, before the ranges of R26 check 3 are looked at. -/
inductive RawParams where
  | takeLayout (layout : Nat)
  | startAdvert (st gen rate length mode : Nat)
  | setLevel (target ramp : Nat)
  | goDark
  | wake
  | fireTriggers (mask : Nat)
  deriving DecidableEq, Repr

/-- The due of a post as carried (R26). -/
inductive RawDue where
  | time (t : Nat)
  | next (offset : Nat)
  deriving DecidableEq, Repr

/-- The last fields of a post as carried: late policy, gate, patience and on timeout (R26). -/
structure RawTail where
  late : Nat
  gate : Nat
  patience : Option Nat
  onTimeout : Option Nat
  deriving DecidableEq, Repr

/-- A post as carried; a part that is missing or not one of its names is `none` (R161). -/
structure RawPost where
  params : Option RawParams
  due : Option RawDue
  tail : Option RawTail
  deriving DecidableEq, Repr

/-- What a claim asks of the cue list (R23). -/
inductive ClaimOp where
  | post (raw : RawPost)
  /-- the id carried, or none when the body is too short -/
  | cancel (id : Option Nat)
  deriving DecidableEq, Repr

/-- Who waits for the answer of the operation in progress. The CONSOLE requester serves a typed LAYOUT and the
Start-up Controller's posts (R23, R180). -/
inductive ClaimFrom where
  | port (p : PortId)
  | typed
  | startup
  | trigger (k : TriggerId)
  deriving DecidableEq, Repr

/-- The operation in progress behind the arbiter (R23). -/
structure Grant where
  claimant : ClaimFrom
  op : ClaimOp
  /-- the port's link has stayed up since the grant, so the response is to be sent (R23, R158) -/
  answered : Bool
  deriving DecidableEq, Repr

/-- Arbiter group of a requester (R24). -/
inductive ArbGroup where
  | high | low
  deriving DecidableEq, Repr

/-- The groups of the four requesters (R24). -/
structure ArbGroups where
  portA : ArbGroup
  portB : ArbGroup
  console : ArbGroup
  trigger : ArbGroup
  deriving DecidableEq, Repr

/-- A member of the high rotation (R24). -/
inductive HighMember where
  | requester (r : Requester)
  | lowGroup
  deriving DecidableEq, Repr

/-- The admission arbiter (R23, R24). A port's waiting claim stands at the port as its request in progress, and the
TRIGGER claim is the head of the post queue. -/
structure Arbiter where
  groups : ArbGroups
  high : List HighMember
  low : List Requester
  /-- the claim of a typed LAYOUT -/
  typedClaim : Option RawPost
  /-- the Start-up Controller's post, presented once no typed claim stands (R180) -/
  startupClaim : Option RawPost
  granted : Option Grant
  deriving DecidableEq, Repr

/-! ### Layouts (chapter 3) -/

/-- The source of a pane, a map entry or a tile record: a stream, or no picture. -/
inductive Source where
  | stream (st : StreamId)
  | black
  deriving DecidableEq, Repr

/-- One pane of a layout (R46). -/
structure Pane where
  source : Source
  col : Nat
  row : Nat
  width : Nat
  height : Nat
  originX : Nat
  originY : Nat
  deriving DecidableEq, Repr

/-- The wall geometry (R43). -/
structure Geometry where
  cols : Nat
  rows : Nat
  tileW : Nat
  tileH : Nat
  gapH : Nat
  gapV : Nat
  deriving DecidableEq, Repr

/-- One wall map entry (R53). -/
structure MapEntry where
  source : Source
  x : Nat
  y : Nat
  clamped : Bool
  deriving DecidableEq, Repr

/-- The layout table, the geometry and the wall map (chapter 3). -/
structure LayoutStore where
  geometry : Geometry
  table : Table 16 (List Pane)
  map : Table 24 MapEntry
  /-- the layout and the refresh of the last TAKE applied -/
  lastTake : Option (LayoutId × Nat)
  deriving DecidableEq, Repr

/-! ### Adverts (chapter 4) -/

/-- The advert timeline of a stream that has a current advert (R58). -/
structure Timeline where
  gen : Nat
  /-- start refresh Ns -/
  start : Nat
  /-- content rate Rc -/
  rate : Nat
  length : Nat
  mode : EndMode
  cueId : Nat
  latestRefresh : Option Nat
  latestNumber : Option Nat
  latestTarget : Option Nat
  loops : Nat
  ended : Bool
  deriving DecidableEq, Repr

/-! ### The wall plan (chapter 6) -/

/-- What a tile record holds of its stream's pick: nothing until the answer, BLACK, or the buffer answered with its fill
number and the generation and number of its frame (R84, R101). -/
inductive RecordBuffer where
  | awaiting
  | black
  | buffer (b : BufId) (fill gen number : Nat)
  deriving DecidableEq, Repr

/-- Whether a record's tile link has taken it (R101). -/
inductive Disposition where
  | opened | taken | abandoned
  deriving DecidableEq, Repr

/-- A tile record of a plan entry (R101). -/
structure TileRecord where
  pos : TileId
  source : Source
  x : Nat
  y : Nat
  buffer : RecordBuffer
  level : Nat
  disposition : Disposition
  deriving DecidableEq, Repr

/-- A plan entry (R101), with the streams whose picks it still waits for (R102). -/
structure PlanEntry where
  refresh : Nat
  complete : Bool
  /-- committed state: DARK or RUNNING -/
  dark : Bool
  level : Nat
  records : List TileRecord
  unanswered : List StreamId
  deriving DecidableEq, Repr

/-- The ramp record (R107). -/
structure Ramp where
  start : Nat
  fromLevel : Nat
  target : Nat
  length : Nat
  deriving DecidableEq, Repr

/-- What the Cut Engine hands the Frame Store Controller for one stream, in order (R102). -/
inductive Handoff where
  /-- a pick for refresh `n`: generation, target, tile count -/
  | pick (n gen target tiles : Nat)
  /-- a START ADVERT of a new generation (R60) -/
  | setCurrent (gen length : Nat) (mode : EndMode)
  /-- a START ADVERT of the current generation (R61) -/
  | restart (length : Nat) (mode : EndMode)
  | setPending (gen : Option Nat)
  deriving DecidableEq, Repr

/-- The commit and plan state of the Cut Engine (chapter 6). -/
structure Plan where
  /-- K, the newest committed refresh -/
  newest : Option Nat
  entries : List PlanEntry
  level : Nat
  ramp : Option Ramp
  trims : Table 24 Nat
  /-- picks and generation changes not yet taken by the Frame Store Controller, oldest first -/
  handoffs : Table 8 (List Handoff)
  deriving DecidableEq, Repr

/-! ### The frame store (chapter 5) -/

/-- The state of a frame buffer (R77). -/
inductive BufState where
  | free | filling | queued | held | retired
  deriving DecidableEq, Repr

/-- Why a buffer left use (R76). -/
inductive RetireCause where
  | check | integrity
  deriving DecidableEq, Repr

/-- The frame a buffer holds (R76): its header, and its picture once the fill has ended. -/
structure Frame where
  stream : StreamId
  gen : Nat
  number : Nat
  width : Nat
  height : Nat
  picture : List Byte
  deriving DecidableEq, Repr

/-- One frame buffer record (R76). The frame is absent while FREE, and in a buffer that the frame store check retired
(DEDUCED: log 36). R76 leaves open what check value stands before the first fill has ended, and until the next one has
(DESIGN CHOICE: log 46). -/
structure Buffer where
  state : BufState
  frame : Option Frame
  refs : Nat
  fill : Nat
  check : Nat
  bad : Bool
  cause : Option RetireCause
  deriving DecidableEq, Repr

/-- How the most recent pick was answered (R74). -/
inductive PickOutcome where
  | fresh | again | black
  deriving DecidableEq, Repr

/-- The configuration of a stream (R74). -/
structure StreamConfig where
  width : Nat
  height : Nat
  limit : Nat
  flushOpen : Bool
  flushClose : Bool
  deriving DecidableEq, Repr

/-- The seven counts of a stream (R91). -/
structure StreamCounts where
  accepted : Nat
  late : Nat
  stale : Nat
  crossed : Nat
  passed : Nat
  flushed : Nat
  starve : Nat
  deriving DecidableEq, Repr

/-- One stream record (R74). Its readiness stands with the outputs. -/
structure Stream where
  config : StreamConfig
  currentGen : Option Nat
  currentLength : Option Nat
  currentMode : Option EndMode
  pendingGen : Option Nat
  /-- the current section of the queue, in increasing content number (R76) -/
  current : List BufId
  /-- the pending section of the queue -/
  pending : List BufId
  lastPicked : Option BufId
  floor : Option Nat
  lastOutcome : Option PickOutcome
  starving : Bool
  counts : StreamCounts
  deriving DecidableEq, Repr

/-- The integrity capture record (R88). -/
structure Capture where
  buffer : BufId
  stream : StreamId
  gen : Nat
  number : Nat
  tile : TileId
  refresh : Nat
  deriving DecidableEq, Repr

/-- The Frame Store Controller (chapter 5). -/
structure FrameStore where
  buffers : Table 48 Buffer
  streams : Table 8 Stream
  capture : Option Capture
  overflow : Bool
  failures : Nat
  /-- the FILLING buffer of each port's arrival -/
  arrivals : Both (Option BufId)
  /-- releases sent and not yet arrived: buffer and fill number (R86) -/
  releases : List (BufId × Nat)
  deriving DecidableEq, Repr

/-! ### Tiles (chapter 7) -/

/-- Tile state (R115). -/
inductive TileState where
  | off | down | training | live | faulted
  deriving DecidableEq, Repr

/-- Fault reason (R114). -/
inductive FaultReason where
  | depth | misses | silent
  deriving DecidableEq, Repr

/-- What a dispatch carries once it has its record or is a marker (R121, R129). -/
inductive Payload where
  | marker
  | test
  | record (r : TileRecord)
  deriving DecidableEq, Repr

/-- The phase of a dispatch (R122). While SENDING, `reading` says that a frame buffer is being read. -/
inductive Phase where
  | awaitingEntry
  | queued (load : Payload)
  | sending (load : Payload) (reading : Bool)
  deriving DecidableEq, Repr

/-- One dispatch of a tile's pending dispatch list (R121). -/
structure Dispatch where
  refresh : Nat
  phase : Phase
  deriving DecidableEq, Repr

/-- The totals of a tile (R128). -/
structure TileTotals where
  dispatched : Nat
  onTime : Nat
  misses : Nat
  ignored : Nat
  overrun : Nat
  integrityBlack : Nat
  hello : Nat
  faults : Nat
  serviceDropped : Nat
  deriving DecidableEq, Repr

/-- The content byte of a dispatch header (R171). -/
inductive Content where
  | picture | black | marker | test
  deriving DecidableEq, Repr

/-- How a dispatch ended (R171). -/
inductive EndKind where
  | complete | blackEnd | voidEnd
  deriving DecidableEq, Repr

/-- A message from the part to a tile (R171). -/
inductive TileMsg where
  | sync (boundary : Nat) (test : Bool)
  | trainingRequest
  | dispatch (refresh : Nat) (content : Content) (level x y width height dataW dataH : Nat) (data : List Byte)
  | dispatchEnd (refresh : Nat) (kind : EndKind)
  | service (bytes : List Byte)
  deriving DecidableEq, Repr

/-- One tile record of a Tile Link Controller (R114). -/
structure Tile where
  state : TileState
  reason : Option FaultReason
  linkUp : Bool
  helloDepth : Option Nat
  override : Option Nat
  depth : Option Nat
  training : Option Nat
  /-- first planned refresh f -/
  first : Option Nat
  dispatches : List Dispatch
  awaiting : List Nat
  missRun : Nat
  totals : TileTotals
  wrapped : Bool
  /-- messages sent to the tile, oldest first (the model's own) -/
  sent : List TileMsg
  deriving DecidableEq, Repr

/-! ### Triggers, timers and lines (chapter 8) -/

/-- Line mode (R132). -/
inductive LineMode where
  | input | output | error
  deriving DecidableEq, Repr

/-- Line polarity (R132). -/
inductive Polarity where
  | activeHigh | activeLow
  deriving DecidableEq, Repr

/-- Line pull (R132). -/
inductive Pull where
  | none | up | down
  deriving DecidableEq, Repr

/-- Dark level (R132). -/
inductive DarkLevel where
  | follow | active | inactive
  deriving DecidableEq, Repr

/-- A commanded or driven level (R132). -/
inductive Drive where
  | active | inactive | released
  deriving DecidableEq, Repr

/-- The settings of a line that SET LINE and store group G5 write (R137, R155). -/
structure LineConfig where
  mode : LineMode
  polarity : Polarity
  pull : Pull
  debounce : Nat
  dark : DarkLevel
  commanded : Drive
  deriving DecidableEq, Repr

/-- One line record (R132). Its driven level stands with the outputs. -/
structure Line where
  config : LineConfig
  /-- raw level: the pin is high -/
  rawHigh : Bool
  /-- settled level: ACTIVE -/
  settled : Bool
  /-- debounce count, none while stopped -/
  debounceCount : Option Nat
  pulseCount : Option Nat
  rises : Nat
  falls : Nat
  pulses : Nat
  deriving DecidableEq, Repr

/-- The Line Block (R136). -/
structure LineBlock where
  lines : Table 12 Line
  pulseWidth : Nat
  /-- lit state DARK -/
  dark : Bool
  /-- pending changes: refresh and whether it is to DARK -/
  schedule : List (Nat × Bool)
  deriving DecidableEq, Repr

/-- Who started a timer last (R139). -/
inductive Starter where
  | port (p : PortId) | trigger (k : TriggerId)
  deriving DecidableEq, Repr

/-- One interval timer (R139). -/
structure Timer where
  running : Bool
  count : Nat
  start : Nat
  rep : Bool
  expiries : Nat
  starter : Option Starter
  deriving DecidableEq, Repr

/-- Edges a LINE condition watches (R142). -/
inductive EdgeKind where
  | rise | fall | either
  deriving DecidableEq, Repr

/-- The wall states a WALL condition may name (R142). -/
inductive WallCondition where
  | stopped | running | dark | testing
  deriving DecidableEq, Repr

/-- A trigger's condition with its subject (R142); `none` as a subject is ANY. -/
inductive Condition where
  | none
  | clock
  | boundary
  | commit
  | frame (st : StreamId)
  | loops (st : StreamId)
  | starves (st : StreamId)
  | line (l : LineId) (edge : EdgeKind)
  | timer (t : TimerId)
  | advertEnd (st : Option StreamId)
  | loopWrap (st : Option StreamId)
  | tileFault (j : Option TileId)
  | wall (w : WallCondition)
  deriving DecidableEq, Repr

/-- How the marks part changes a mark (R141). -/
inductive MarkChange where
  | capture (offset : Nat)
  | advance (step : Nat)
  deriving DecidableEq, Repr

/-- The marks part of an action (R141). -/
structure MarksPart where
  targets : BitVec 8
  change : MarkChange
  deriving DecidableEq, Repr

/-- What the timers part does to one timer (R141). -/
inductive TimerAct where
  | none
  | stop
  | start (value : Nat) (rep : Bool)
  deriving DecidableEq, Repr

/-- The lines part of an action (R141). -/
structure LinesPart where
  setMask : BitVec 12
  clearMask : BitVec 12
  pulseMask : BitVec 12
  deriving DecidableEq, Repr

/-- The due form of a trigger's post (R141). -/
inductive TriggerDue where
  | after (delay : Nat)
  | next (offset : Nat)
  deriving DecidableEq, Repr

/-- The post part of an action (R141); the ranges of R26 check 3 have been met, its clamps are left to admission
(R149). -/
structure PostPart where
  params : RawParams
  due : TriggerDue
  tail : RawTail
  deriving DecidableEq, Repr

/-- The five optional parts of an action (R141). -/
structure Action where
  marks : Option MarksPart
  timers : Option (TimerAct × TimerAct)
  lines : Option LinesPart
  post : Option PostPart
  chain : Option (BitVec 8)
  deriving DecidableEq, Repr

/-- The definition of a trigger, as SET TRIGGER writes it (R141). -/
structure TriggerDef where
  condition : Condition
  mark : Option Nat
  /-- mode ONCE -/
  once : Bool
  action : Action
  notifyA : Bool
  notifyB : Bool
  deriving DecidableEq, Repr

/-- The source of a firing (R141). -/
inductive FireSource where
  | condition
  | chain (k : TriggerId)
  | request (p : PortId)
  | cue (id : Nat)
  deriving DecidableEq, Repr

/-- The outcome of a post (R29). -/
inductive PostOutcome where
  | inserted (clampRamp clampGate slipped : Bool) (id time : Nat) (due : Option Nat)
  | state (w : WallState)
  | held (p : PortId)
  | range
  | unknown
  | full
  | late (due newest : Nat)
  deriving DecidableEq, Repr

/-- One trigger record (R141). -/
structure Trigger where
  defn : TriggerDef
  enabled : Bool
  /-- last value of a comparison -/
  last : Bool
  fires : Nat
  merged : Nat
  lastFire : Option (FireSource × Nat)
  postPending : Bool
  lastPost : Option PostOutcome
  markSaturated : Bool
  deriving DecidableEq, Repr

/-- The values a commit hands for a stream (R68, R142). -/
structure CommitValues where
  refresh : Nat
  number : Nat
  target : Nat
  loops : Nat
  starves : Nat
  deriving DecidableEq, Repr

/-- A post of the post queue (R147, R152). -/
structure QueuedPost where
  trigger : TriggerId
  raw : RawPost
  firedAt : Nat
  deriving DecidableEq, Repr

/-- What set the wall error first (R153). -/
inductive ErrorCause where
  | tileFault (j : TileId) (reason : FaultReason)
  | integrity (b : BufId)
  deriving DecidableEq, Repr

/-- The wall error record (R153). -/
structure WallError where
  flag : Bool
  cause : Option ErrorCause
  count : Nat
  deriving DecidableEq, Repr

/-- The Trigger Unit (chapter 8). -/
structure TriggerUnit where
  triggers : Table 8 Trigger
  timers : Table 2 Timer
  values : Table 8 (Option CommitValues)
  posts : List QueuedPost
  error : WallError
  disableOnError : Bool
  deriving DecidableEq, Repr

/-! ### Player ports (chapter 9) -/

/-- Player link state (R156). -/
inductive LinkState where
  | held | down | up
  deriving DecidableEq, Repr

/-- Why a player link last left UP (R156). -/
inductive DownCause where
  | lost | closed | protocol
  deriving DecidableEq, Repr

/-- The requests of the request index (9.5). -/
inductive ReqKind where
  | readClock | setClock | configureWall | run | stop | wipe | postCue | cancelCue | cueStatus | listCues
  | releaseHold | defineLayout | readLayout | readMap | readAdvert | configureStream | readStream | readIntegrity
  | readPlan | reviveTile | readTile | setLine | readLines | startTimer | stopTimer | setTrigger | enableTriggers
  | disableTriggers | fireTriggers | readTrigger | clearError | setErrorPolicy | readNotices | setNoticeMask
  | stageStore | programStore | readStore
  deriving DecidableEq, Repr

/-- A request received on a link: its kind, tag and body (R170). -/
structure Request where
  kind : ReqKind
  tag : Tag
  body : List Byte
  deriving DecidableEq, Repr

/-- The request a port has in progress; `granted` once its claim has been granted (R159). -/
structure InProgress where
  request : Request
  granted : Bool
  deriving DecidableEq, Repr

/-- The outcome codes of a response (R160). -/
inductive Code where
  | done | clamped | state | late | full | held | range | unknown | owner | programmed | error | gone | queue
  deriving DecidableEq, Repr

/-- A message a port makes for its player (R160, R170). `readinessDue` is a readiness message that waits for the link
to be free: its contents are fixed when it is sent. -/
inductive PortMsg where
  | response (kind : Byte) (tag : Tag) (code : Code) (body : List Byte)
  | readinessDue
  | readiness (bits : BitVec 4)
  deriving DecidableEq, Repr

/-- The eight notice kinds (9.3). -/
inductive Notice where
  | cue | trigger | tile | starve | store | hold | wall | advertEnd
  deriving DecidableEq, Repr

/-- One Player Port (chapter 9). A set of notices has bit `i` for the `i`-th kind of 9.3. -/
structure Port where
  link : LinkState
  cause : Option DownCause
  queue : List Request
  inProgress : Option InProgress
  notices : BitVec 8
  raises : Table 8 Nat
  mask : BitVec 8
  stray : Nat
  /-- messages made for the player, oldest first (the model's own) -/
  outbox : List PortMsg
  deriving DecidableEq, Repr

/-! ### The console (chapter 10) -/

/-- Console mode (R172). -/
inductive ConsoleMode where
  | prompt | waiting | test | wrap
  deriving DecidableEq, Repr

/-- Usable flag of a store group (R183). -/
inductive Usable where
  | usable | unusable | notLoaded
  deriving DecidableEq, Repr

/-- The active configuration as the blocks hold it (R174, R183). -/
structure ActiveConfig where
  geometry : Geometry
  rate : Nat
  horizon : Nat
  overrides : Table 24 (Option Nat)
  trims : Table 24 Nat
  lines : Table 12 LineConfig
  pulseWidth : Nat
  level : Nat
  layout0 : List Pane
  groups : ArbGroups
  rateCode : Nat
  streams : Table 8 StreamConfig
  deriving DecidableEq, Repr

/-- The messages of R173. -/
inductive Complaint where
  | what | number | range
  deriving DecidableEq, Repr

/-- One line of the MAP report for an existing position (R174). -/
structure MapLine where
  state : TileState
  reason : Option FaultReason
  depth : Option Nat
  source : Source
  deriving DecidableEq, Repr

/-- One line of the CUES report (R174). -/
structure CueLine where
  id : Nat
  owner : Owner
  kind : CueKind
  due : Option Nat
  time : Nat
  waiting : Bool
  deriving DecidableEq, Repr

/-- What the console prints (R172 to R177, R179). -/
inductive ConsoleOut where
  | echo (c : Byte)
  | erase
  | newLine
  | prompt
  | lineTooLong
  | complaint (c : Complaint)
  | phase (code : Nat)
  | storeLoaded (select : BitVec 3) (unusable : List GroupId)
  | positionsEnabled (n : Nat)
  | buffersPassed (n : Nat)
  | checkSkipped
  | startState (w : WallState)
  /-- the command names, and whether each takes a number (R174) -/
  | help (names : List (List Byte × Bool))
  | mapReport (wall : WallState) (newest : Option Nat) (buffers : Nat) (tiles : List MapLine)
  | cuesReport (newest : Option Nat) (holder : Option PortId) (cues : List CueLine)
  | descriptionReport (name : List Nat) (installer : Nat) (groups : List (Bool × Usable)) (config : ActiveConfig)
  /-- DONE, or CLAMPED, with the id and N, and SLIPPED (R175) -/
  | posted (clamped : Bool) (id : Nat) (due : Option Nat) (slipped : Bool)
  | refused (code : Code)
  | runAt (epoch : Nat)
  | stopped
  | testing
  | tally (errors passes : Nat)
  | wrapped (j : TileId)
  | notUp
  | linkDown
  | tileByte (c : Byte)
  deriving DecidableEq, Repr

/-- The Service Console (chapter 10). -/
structure Console where
  line : List Byte
  mode : ConsoleMode
  target : Option TileId
  passes : Nat
  errors : Nat
  inPass : Nat
  /-- line rate code (R179, R183) -/
  rateCode : Nat
  /-- the last character received was a carriage return (R172) -/
  afterReturn : Bool
  /-- what the console has printed, oldest first (the model's own) -/
  printed : List ConsoleOut
  deriving DecidableEq, Repr

/-! ### Start-up and the wall description store (chapter 11) -/

/-- The start-up phase (R179); `reset` is code 0. -/
inductive StartPhase where
  | reset | storeLoad | maskShift | storeCheck | applying | ended
  deriving DecidableEq, Repr

/-- A pane as carried, before its ranges are looked at (R47). -/
structure RawPane where
  source : Nat
  col : Nat
  row : Nat
  width : Nat
  height : Nat
  originX : Nat
  originY : Nat
  deriving DecidableEq, Repr

/-- The value of one field of a store group (R183). -/
inductive FieldVal where
  | num (n : Nat)
  /-- a depth override of G3: its present flag and its depth -/
  | override (present depth : Nat)
  /-- the wall name of G0 -/
  | name (chars : List Nat)
  /-- the layout 0 panes of G6 -/
  | panes (ps : List RawPane)
  deriving DecidableEq, Repr

/-- One store group with its part of the staging image (R183, R184). -/
structure StoreGroup where
  programmed : Bool
  contents : List FieldVal
  usable : Usable
  staging : List (Option FieldVal)
  deriving DecidableEq, Repr

/-- The store operation in progress (R185). -/
structure Programming where
  group : GroupId
  port : PortId
  /-- the port's link has stayed up, so the response is to be sent -/
  answered : Bool
  deriving DecidableEq, Repr

/-- A pin event of the three-wire mask input (R181). -/
inductive MaskPin where
  | load | shift | clockPulse
  | read (bit : Bool)
  deriving DecidableEq, Repr

/-- The Start-up Controller and the Wall Description Store (chapter 11). -/
structure Startup where
  select : BitVec 3
  phase : StartPhase
  /-- the console's rate has been changed and the start state entered -/
  rateChanged : Bool
  mask : BitVec 24
  passed : Nat
  groups : Table 10 StoreGroup
  programming : Option Programming
  /-- what the mask pins have done, oldest first (the model's own) -/
  maskPins : List MaskPin
  deriving DecidableEq, Repr

/-! ### The whole -/

/-- What stands at the pin of a general line (R133): driven high or low, held high or low by the pull while the part does
not drive it, or left to what the shop connects. -/
inductive PinLevel where
  | drivenHigh | drivenLow | pulledHigh | pulledLow | undriven
  deriving DecidableEq, Repr

/-- The outputs as last settled: readiness (R78), notice lines (R165), driven levels and the pins they give (R133), status
lines (R187). -/
structure Pins where
  ready : Table 8 Bool
  notice : Both Bool
  driven : Table 12 Drive
  /-- the pin of each general line -/
  level : Table 12 PinLevel
  status : Nat
  deriving DecidableEq, Repr

/-- The state of the part, with the queue of the commands that wait. -/
structure State where
  pending : List Instr
  /-- RESET is held (R179) -/
  resetHeld : Bool
  wall : WallTiming
  cues : CueStore
  arbiter : Arbiter
  layouts : LayoutStore
  adverts : Table 8 (Option Timeline)
  plan : Plan
  store : FrameStore
  tiles : Table 24 Tile
  triggers : TriggerUnit
  lines : LineBlock
  ports : Both Port
  console : Console
  startup : Startup
  pins : Pins
  deriving DecidableEq, Repr

/-! ### How a step stops -/

/-- Faults. The manual gives the part no condition in which it stops, so there is none (INVENTORY.md, Faults). Safe: no
command can end in one. -/
inductive Fault where
  deriving DecidableEq, Repr

/-- Refusals. -/
inductive Refusal where
  /-- A command with no meaning yet, raised by `exec`'s arm of that command. Safe: nothing is claimed of it. -/
  | notModelled (mnemonic : String)
  deriving DecidableEq, Repr

/-! ### Reset -/

namespace WallTiming

/-- Wall Timing at cold reset (R1, R4, R7). -/
def reset : WallTiming :=
  { clock := 0, rate := 60, horizon := 2, epoch := none, state := .starting, newest := none }

end WallTiming

/-- Cue state at cold reset (R42). -/
def CueStore.reset : CueStore :=
  { list := [], history := [], nextId := 1, nextSeq := 1, hold := none, pendingGen := .fill 8 none }

/-- The default arbiter groups (R24). -/
def ArbGroups.default : ArbGroups := { portA := .high, portB := .high, console := .low, trigger := .low }

/-- The arbiter at cold reset (R24, R42), with the default groups. -/
def Arbiter.reset : Arbiter :=
  { groups := .default, high := [.requester (.port .a), .requester (.port .b), .lowGroup],
    low := [.console, .trigger], typedClaim := none, startupClaim := none, granted := none }

/-- The default wall geometry (R43). -/
def Geometry.default : Geometry := { cols := 6, rows := 4, tileW := 1920, tileH := 1080, gapH := 0, gapV := 0 }

/-- A BLACK map entry (R53). -/
def MapEntry.black : MapEntry := { source := .black, x := 0, y := 0, clamped := false }

/-- Layouts at cold reset (R43, R57). -/
def LayoutStore.reset : LayoutStore :=
  { geometry := .default, table := .fill 16 [], map := .fill 24 .black, lastTake := none }

/-- The plan at cold reset (R113). -/
def Plan.reset : Plan :=
  { newest := none, entries := [], level := 255, ramp := none, trims := .fill 24 255, handoffs := .fill 8 [] }

/-- A frame buffer at cold reset (R93). -/
def Buffer.reset : Buffer :=
  { state := .free, frame := none, refs := 0, fill := 0, check := 0, bad := false, cause := none }

/-- The default stream configuration (R75), which also stands until the store load phase ends (DESIGN CHOICE, unsafe:
log 13). -/
def StreamConfig.default : StreamConfig := { width := 0, height := 0, limit := 6, flushOpen := true, flushClose := false }

/-- Cleared counts (R91). -/
def StreamCounts.zero : StreamCounts :=
  { accepted := 0, late := 0, stale := 0, crossed := 0, passed := 0, flushed := 0, starve := 0 }

/-- A stream record at cold reset (R93). -/
def Stream.reset : Stream :=
  { config := .default, currentGen := none, currentLength := none, currentMode := none, pendingGen := none,
    current := [], pending := [], lastPicked := none, floor := none, lastOutcome := none, starving := true,
    counts := .zero }

/-- The Frame Store Controller at cold reset (R93). -/
def FrameStore.reset : FrameStore :=
  { buffers := .fill 48 .reset, streams := .fill 8 .reset, capture := none, overflow := false, failures := 0,
    arrivals := { a := none, b := none }, releases := [] }

/-- Cleared totals (R128). -/
def TileTotals.zero : TileTotals :=
  { dispatched := 0, onTime := 0, misses := 0, ignored := 0, overrun := 0, integrityBlack := 0, hello := 0, faults := 0,
    serviceDropped := 0 }

/-- A tile record at cold reset (R131). -/
def Tile.reset : Tile :=
  { state := .off, reason := none, linkUp := false, helloDepth := none, override := none, depth := none,
    training := none, first := none, dispatches := [], awaiting := [], missRun := 0, totals := .zero, wrapped := false,
    sent := [] }

/-- The line settings until store load, and the defaults of G5 (R155). -/
def LineConfig.default : LineConfig :=
  { mode := .input, polarity := .activeHigh, pull := .up, debounce := 600, dark := .follow, commanded := .released }

/-- A line record at cold reset (R155). The raw level is the pin's: HIGH is a DESIGN CHOICE, unsafe (log 11). The
settled level is the raw level read through the polarity (R134). -/
def Line.reset : Line :=
  { config := .default, rawHigh := true, settled := true, debounceCount := none, pulseCount := none, rises := 0,
    falls := 0, pulses := 0 }

/-- The Line Block at cold reset (R155). -/
def LineBlock.reset : LineBlock := { lines := .fill 12 .reset, pulseWidth := 600, dark := false, schedule := [] }

/-- A timer at cold reset (R155), with a count of 0 (DESIGN CHOICE: log 59). -/
def Timer.reset : Timer :=
  { running := false, count := 0, start := 1, rep := false, expiries := 0, starter := none }

/-- An action with no part (R155). -/
def Action.empty : Action := { marks := none, timers := none, lines := none, post := none, chain := none }

/-- A trigger at cold reset (R155). -/
def Trigger.reset : Trigger :=
  { defn := { condition := .none, mark := none, once := false, action := .empty, notifyA := false, notifyB := false },
    enabled := false, last := false, fires := 0, merged := 0, lastFire := none, postPending := false, lastPost := none,
    markSaturated := false }

/-- A clear wall error record (R153). -/
def WallError.clear : WallError := { flag := false, cause := none, count := 0 }

/-- The Trigger Unit at cold reset (R155). -/
def TriggerUnit.reset : TriggerUnit :=
  { triggers := .fill 8 .reset, timers := .fill 2 .reset, values := .fill 8 none, posts := [], error := .clear,
    disableOnError := false }

/-- A Player Port at cold reset (R168). -/
def Port.reset : Port :=
  { link := .held, cause := none, queue := [], inProgress := none, notices := 0, raises := .fill 8 0, mask := 0xFF,
    stray := 0, outbox := [] }

/-- The console at cold reset (R178, R179). -/
def Console.reset : Console :=
  { line := [], mode := .prompt, target := none, passes := 0, errors := 0, inPass := 0, rateCode := 0,
    afterReturn := false, printed := [] }

/-- How many fields each store group has (R183; the fields of log 34). -/
def groupSizes : List Nat := [2, 6, 2, 24, 24, 73, 2, 4, 1, 40]

/-- A store group of a part as delivered: not programmed (DESIGN CHOICE, unsafe: log 14), nothing staged (R184). -/
def StoreGroup.blank (g : GroupId) : StoreGroup :=
  { programmed := false, contents := List.replicate (groupSizes.getD g 0) (.num 0), usable := .notLoaded,
    staging := List.replicate (groupSizes.getD g 0) none }

/-- The Start-up Controller and the store at cold reset (R179, R184; DESIGN CHOICE, unsafe, for what is read only
later: log 12 and log 14). -/
def Startup.reset : Startup :=
  { select := 0, phase := .reset, rateChanged := false, mask := 0, passed := 0, groups := .ofFn StoreGroup.blank,
    programming := none, maskPins := [] }

/-- The outputs at cold reset: readiness withdrawn (R93), notice lines deasserted (R165), every line RELEASED and held
high by its pull (R133, R155), status 0 (R179). -/
def Pins.reset : Pins :=
  { ready := .fill 8 false, notice := { a := false, b := false }, driven := .fill 12 .released,
    level := .fill 12 .pulledHigh, status := 0 }

namespace State

/-- The part right after cold reset, RESET still held (R179): every block at its cold-reset values, no command
waiting. -/
def reset : State :=
  { pending := [], resetHeld := true, wall := .reset, cues := .reset, arbiter := .reset, layouts := .reset,
    adverts := .fill 8 none, plan := .reset, store := .reset, tiles := .fill 24 .reset, triggers := .reset,
    lines := .reset, ports := { a := .reset, b := .reset }, console := .reset, startup := .reset, pins := .reset }

end State

end Sys2Proof.Machine
end

