-- ==== Sys2Proof/Machine/Ops.lean ====
section
/-! DEFINITION. The named operations every block shares: reading and changing one block or one record of the state,
raising a notice, making a message, printing. The part has no exception entry; what an interrupt is elsewhere is here a
notice (R164). -/

namespace Sys2Proof.Machine

/-- The greatest show time, 2^48−1 (R1). -/
def maxClock : Nat := 2 ^ 48 - 1
/-- The greatest refresh number, 2^40−1 (R12). -/
def maxRefresh : Nat := 2 ^ 40 - 1
/-- The greatest content frame number, 2^32−1 (R64). -/
def maxNumber : Nat := 2 ^ 32 - 1

/-- The refresh period Pw of wall rate `rate` in ticks (R4: always 60000 / Rw). -/
def periodOf (rate : Nat) : Nat := 60000 / rate

namespace State

/-! ### One block changed -/

def modWall (f : WallTiming → WallTiming) (s : State) : State := { s with wall := f s.wall }
def modCues (f : CueStore → CueStore) (s : State) : State := { s with cues := f s.cues }
def modArbiter (f : Arbiter → Arbiter) (s : State) : State := { s with arbiter := f s.arbiter }
def modLayouts (f : LayoutStore → LayoutStore) (s : State) : State := { s with layouts := f s.layouts }
def modAdverts (f : Table 8 (Option Timeline) → Table 8 (Option Timeline)) (s : State) : State :=
  { s with adverts := f s.adverts }
def modPlan (f : Plan → Plan) (s : State) : State := { s with plan := f s.plan }
def modStore (f : FrameStore → FrameStore) (s : State) : State := { s with store := f s.store }
def modTiles (f : Table 24 Tile → Table 24 Tile) (s : State) : State := { s with tiles := f s.tiles }
def modTriggers (f : TriggerUnit → TriggerUnit) (s : State) : State := { s with triggers := f s.triggers }
def modLines (f : LineBlock → LineBlock) (s : State) : State := { s with lines := f s.lines }
def modPorts (f : Both Port → Both Port) (s : State) : State := { s with ports := f s.ports }
def modConsole (f : Console → Console) (s : State) : State := { s with console := f s.console }
def modStartup (f : Startup → Startup) (s : State) : State := { s with startup := f s.startup }
def modPins (f : Pins → Pins) (s : State) : State := { s with pins := f s.pins }

/-! ### One record read or changed -/

/-- The Player Port `p`. -/
def port (s : State) (p : PortId) : Port := s.ports.get p

/-- Player Port `p` changed by `f`. -/
def modPort (p : PortId) (f : Port → Port) (s : State) : State :=
  s.modPorts fun ports => ports.set p (f (ports.get p))

/-- The tile record of position `j`. -/
def tile (s : State) (j : TileId) : Tile := s.tiles.get j

/-- The tile record of position `j` changed by `f`. -/
def modTile (j : TileId) (f : Tile → Tile) (s : State) : State := s.modTiles fun t => t.modify j f

/-- The trigger record `k`. -/
def trigger (s : State) (k : TriggerId) : Trigger := s.triggers.triggers.get k

/-- The trigger record `k` changed by `f`. -/
def modTrigger (k : TriggerId) (f : Trigger → Trigger) (s : State) : State :=
  s.modTriggers fun u => { u with triggers := u.triggers.modify k f }

/-- The line record `l`. -/
def line (s : State) (l : LineId) : Line := s.lines.lines.get l

/-- The line record `l` changed by `f`. -/
def modLine (l : LineId) (f : Line → Line) (s : State) : State :=
  s.modLines fun b => { b with lines := b.lines.modify l f }

/-- The stream record `st`. -/
def stream (s : State) (st : StreamId) : Stream := s.store.streams.get st

/-- The frame buffer record `b`. -/
def buffer (s : State) (b : BufId) : Buffer := s.store.buffers.get b

/-- The refresh period in force (R4). -/
def period (s : State) : Nat := periodOf s.wall.rate

/-- The player link of port `p` is UP (R156). -/
def linkUp (s : State) (p : PortId) : Bool := (s.port p).link == .up

/-- Tile `j` is LIVE (R115). -/
def live (s : State) (j : TileId) : Bool := (s.tile j).state == .live

/-- The wall is RUNNING or DARK (R11). -/
def wallRuns (s : State) : Bool := s.wall.state == .running || s.wall.state == .dark

end State

/-! ### Notices, messages and printing -/

/-- The place of a notice kind in the list of 9.3. -/
def Notice.index : Notice → Fin 8
  | .cue => 0 | .trigger => 1 | .tile => 2 | .starve => 3
  | .store => 4 | .hold => 5 | .wall => 6 | .advertEnd => 7

/-- The set that holds kind `k` alone (R169: the bit of its place). -/
def Notice.bit (k : Notice) : BitVec 8 := BitVec.twoPow 8 k.index.val

/-- A kind entered in a port's pending set, its raise count saturating at 255 (R164). -/
def Port.enter (k : Notice) (q : Port) : Port :=
  { q with notices := q.notices ||| k.bit, raises := q.raises.modify k.index (satAdd 255 · 1) }

/-- A pending notice set emptied, with its raise counts (R157, R158, R166). -/
def Port.clearNotices (q : Port) : Port := { q with notices := 0, raises := .fill 8 0 }

/-- A readiness message made: it waits for the link, unless one waits already (R170). -/
def Port.dueReadiness (q : Port) : Port :=
  if q.outbox.contains .readinessDue then q else { q with outbox := q.outbox ++ [.readinessDue] }

namespace State

/-- Kind `k` is raised at port `p`; it is lost while the link is not UP (R164). -/
def raise (p : PortId) (k : Notice) (s : State) : State :=
  if s.linkUp p then s.modPort p (Port.enter k) else s

/-- Kind `k` is raised at both ports (R164). -/
def raiseBoth (k : Notice) (s : State) : State := (s.raise .a k).raise .b k

/-- The response of port `p` to a request, made while its link is UP (R160) and discarded otherwise (R158). -/
def respond (p : PortId) (kind : Byte) (tag : Tag) (code : Code) (body : List Byte) (s : State) : State :=
  if s.linkUp p then s.modPort p fun q => { q with outbox := q.outbox ++ [.response kind tag code body] } else s

/-- The console prints `out`. -/
def print (out : List ConsoleOut) (s : State) : State :=
  s.modConsole fun c => { c with printed := c.printed ++ out }

/-- The console prints `out`, then shows the prompt in mode PROMPT (R173). -/
def printPrompt (out : List ConsoleOut) (s : State) : State :=
  s.modConsole fun c => { c with printed := c.printed ++ out ++ [.prompt], mode := .prompt }

/-- The console enters mode TEST: its counts are 0 and it prints TESTING (R176). -/
def enterTest (s : State) : State :=
  s.modConsole fun c =>
    { c with mode := .test, passes := 0, errors := 0, inPass := 0, printed := c.printed ++ [.testing] }

/-- The console prints `out` at the end of a wait or of a wrap and returns to PROMPT (R173, R177); while the wall is
TESTING it enters TEST instead (R176; log 41). -/
def consoleBack (out : List ConsoleOut) (s : State) : State :=
  if s.wall.state = .testing then (s.print out).enterTest else s.printPrompt out

/-- The Tile Link Controller of `j` sends a message (R171). -/
def send (j : TileId) (m : TileMsg) (s : State) : State := s.modTile j fun t => { t with sent := t.sent ++ [m] }

/-- A release is sent to the Frame Store Controller (R86). -/
def sendRelease (b : BufId) (fill : Nat) (s : State) : State :=
  s.modStore fun fs => { fs with releases := fs.releases ++ [(b, fill)] }

end State

/-! ### Codes of requests and responses -/

/-- The kind number of a request (9.5). -/
def ReqKind.code : ReqKind → Byte
  | .readClock => 0x01 | .setClock => 0x02 | .configureWall => 0x03 | .run => 0x04 | .stop => 0x05 | .wipe => 0x06
  | .postCue => 0x10 | .cancelCue => 0x11 | .cueStatus => 0x12 | .listCues => 0x13 | .releaseHold => 0x14
  | .defineLayout => 0x18 | .readLayout => 0x19 | .readMap => 0x1A | .readAdvert => 0x20
  | .configureStream => 0x28 | .readStream => 0x29 | .readIntegrity => 0x2A | .readPlan => 0x30
  | .reviveTile => 0x38 | .readTile => 0x39
  | .setLine => 0x40 | .readLines => 0x41 | .startTimer => 0x42 | .stopTimer => 0x43 | .setTrigger => 0x44
  | .enableTriggers => 0x45 | .disableTriggers => 0x46 | .fireTriggers => 0x47 | .readTrigger => 0x48
  | .clearError => 0x49 | .setErrorPolicy => 0x4A
  | .readNotices => 0x50 | .setNoticeMask => 0x51
  | .stageStore => 0x58 | .programStore => 0x59 | .readStore => 0x5A

/-- Every request of the index (9.5). -/
def ReqKind.all : List ReqKind :=
  [.readClock, .setClock, .configureWall, .run, .stop, .wipe, .postCue, .cancelCue, .cueStatus, .listCues,
   .releaseHold, .defineLayout, .readLayout, .readMap, .readAdvert, .configureStream, .readStream, .readIntegrity,
   .readPlan, .reviveTile, .readTile, .setLine, .readLines, .startTimer, .stopTimer, .setTrigger, .enableTriggers,
   .disableTriggers, .fireTriggers, .readTrigger, .clearError, .setErrorPolicy, .readNotices, .setNoticeMask,
   .stageStore, .programStore, .readStore]

/-- The request a kind number names (R161). -/
def ReqKind.ofCode (k : Byte) : Option ReqKind := ReqKind.all.find? fun r => r.code == k

/-- The outcome code byte (R160). -/
def Code.byte : Code → Byte
  | .done => 0x00 | .clamped => 0x01 | .state => 0x80 | .late => 0x81 | .full => 0x82 | .held => 0x83 | .range => 0x84
  | .unknown => 0x85 | .owner => 0x86 | .programmed => 0x87 | .error => 0x88 | .gone => 0x89 | .queue => 0x8A

/-- What a block answers a request with (R160). -/
structure Answer where
  code : Code
  body : List Byte
  deriving DecidableEq, Repr

/-- An outcome with no body. -/
def Answer.bare (c : Code) : Answer := { code := c, body := [] }

end Sys2Proof.Machine
end

