-- ==== Sys2Proof/Machine/FrameOps.lean ====
section
/-! DEFINITION. The Frame Store Controller's operations on its own record: the pool, the queues, generations, picks,
probes, references and integrity (chapter 5). -/

namespace Sys2Proof.Machine

/-- A buffer made FREE: it holds no frame and no reference; its fill number stays (R76, R77), and so does its check value
(DESIGN CHOICE: log 46). -/
def Buffer.freed (x : Buffer) : Buffer :=
  { x with state := .free, frame := none, refs := 0, bad := false, cause := none }

/-- A buffer made RETIRED: nothing reaches the frame it holds any more (R77), which its record still names, since stream,
generation and number are absent while FREE alone (R76; log 36). -/
def Buffer.retired (c : RetireCause) (x : Buffer) : Buffer :=
  { x with state := .retired, refs := 0, cause := some c }

/-- One reference fewer; at 0 the buffer becomes FREE, or RETIRED when it is bad (R86). -/
def Buffer.dropRef (x : Buffer) : Buffer :=
  match x.refs with
  | 0 => x
  | 1 => if x.bad then x.retired .integrity else x.freed
  | n + 2 => { x with refs := n + 1 }

/-- A stream is configured while both its dimensions are above 0 (R74). -/
def StreamConfig.configured (c : StreamConfig) : Bool := decide (0 < c.width) && decide (0 < c.height)

namespace FrameStore

/-! ### Reading -/

def buf (fs : FrameStore) (b : BufId) : Buffer := fs.buffers.get b
def modBuf (b : BufId) (f : Buffer → Buffer) (fs : FrameStore) : FrameStore :=
  { fs with buffers := fs.buffers.modify b f }
def stream (fs : FrameStore) (st : StreamId) : Stream := fs.streams.get st
def modStream (st : StreamId) (f : Stream → Stream) (fs : FrameStore) : FrameStore :=
  { fs with streams := fs.streams.modify st f }

/-- The content number of the frame in buffer `b`. -/
def number (fs : FrameStore) (b : BufId) : Nat := ((fs.buf b).frame.map (·.number)).getD 0

/-- The generation of the frame in buffer `b`. -/
def gen (fs : FrameStore) (b : BufId) : Nat := ((fs.buf b).frame.map (·.gen)).getD 0

/-- Buffer `b` holds a frame of generation `g`. -/
def ofGen (fs : FrameStore) (g : Nat) (b : BufId) : Bool := (fs.buf b).frame.any fun f => f.gen == g

/-- A stream's queue in order: the current section and then the pending section (R76). -/
def queue (fs : FrameStore) (st : StreamId) : List BufId := (fs.stream st).current ++ (fs.stream st).pending

/-- The HELD buffers of a stream, by buffer number (DESIGN CHOICE: log 45). -/
def heldOf (fs : FrameStore) (st : StreamId) : List BufId :=
  (List.finRange 48).filter fun b => (fs.buf b).state == .held && (fs.buf b).frame.any fun f => f.stream == st

/-- QUEUED plus HELD buffers of a stream, the number its limit bounds (R78). -/
def load (fs : FrameStore) (st : StreamId) : Nat := (fs.queue st).length + (fs.heldOf st).length

/-- The buffers in a state, by buffer number (DESIGN CHOICE where a report lists them: log 45). -/
def inState (fs : FrameStore) (x : BufState) : List BufId :=
  (List.finRange 48).filter fun b => (fs.buf b).state == x

/-- The lowest-numbered FREE buffer (R79). -/
def lowestFree (fs : FrameStore) : Option BufId := (fs.inState .free).head?

/-! ### Queues -/

/-- Buffers made FREE. -/
def freeAll (bs : List BufId) (fs : FrameStore) : FrameStore := bs.foldl (fun fs b => fs.modBuf b Buffer.freed) fs

/-- The queued frames of `st` that `gone` names are released and counted as flushed (R91). -/
def flush (st : StreamId) (gone : List BufId) (fs : FrameStore) : FrameStore :=
  (fs.freeAll gone).modStream st fun x =>
    { x with
      current := x.current.filter fun b => !gone.contains b
      pending := x.pending.filter fun b => !gone.contains b
      counts := { x.counts with flushed := satAdd countMax x.counts.flushed gone.length } }

/-- Every queued frame of `st`, in both sections, is flushed (R90). -/
def flushAll (st : StreamId) (fs : FrameStore) : FrameStore := fs.flush st (fs.queue st)

/-- `b` inserted in a section at the place its number gives it (R76, R80). -/
def insertByNumber (fs : FrameStore) (b : BufId) : List BufId → List BufId
  | [] => [b]
  | x :: xs => if fs.number b < fs.number x then b :: x :: xs else x :: insertByNumber fs b xs

/-- The last-picked frame loses its reference for that standing (R86). -/
def dropLastPicked (st : StreamId) (fs : FrameStore) : FrameStore :=
  match (fs.stream st).lastPicked with
  | none => fs
  | some b => (fs.modBuf b Buffer.dropRef).modStream st fun x => { x with lastPicked := none }

/-! ### Generations (R83) -/

/-- A new pending generation: the frames of the old one are flushed, unless it is the current generation. -/
def setPending (st : StreamId) (gen : Option Nat) (fs : FrameStore) : FrameStore :=
  let x := fs.stream st
  if gen = x.pendingGen then fs
  else
    let gone := match x.pendingGen with
      | none => []
      | some p => if x.currentGen = some p then [] else (fs.queue st).filter (fs.ofGen p)
    (fs.flush st gone).modStream st fun x => { x with pendingGen := gen }

/-- A START ADVERT of a generation that differs from the current one: its pending frames become the current section, the
frames of the former current generation are flushed (R60, R62; log 51 where it is also pending) and so are those of the
pending section that are neither of this generation nor of a pending one, and the picked floor becomes none (R83). -/
def setCurrent (st : StreamId) (gen length : Nat) (mode : EndMode) (fs : FrameStore) : FrameStore :=
  let x := fs.stream st
  let isPending := fun b => x.pendingGen.any fun p => fs.ofGen p b
  let moved := x.pending.filter (fs.ofGen gen)
  let kept := x.pending.filter fun b => !fs.ofGen gen b && isPending b
  let gone := x.current ++ x.pending.filter fun b => !fs.ofGen gen b && !isPending b
  (fs.flush st gone).modStream st fun x =>
    { x with current := moved, pending := kept, currentGen := some gen, currentLength := some length,
             currentMode := some mode, floor := none }

/-- A START ADVERT that restarts the current generation. -/
def restart (st : StreamId) (length : Nat) (mode : EndMode) (fs : FrameStore) : FrameStore :=
  fs.modStream st fun x => { x with currentLength := some length, currentMode := some mode, floor := none }

/-- STOP at one stream: the current generation's frames are flushed, or become the pending section when that generation
is also pending; the last-picked frame is given up. -/
def stopStream (st : StreamId) (fs : FrameStore) : FrameStore :=
  let x := fs.stream st
  let keeps := x.currentGen.isSome && x.currentGen == x.pendingGen
  let fs := if keeps then fs.modStream st fun x => { x with current := [], pending := x.current ++ x.pending }
            else fs.flush st x.current
  (fs.dropLastPicked st).modStream st fun x =>
    { x with currentGen := none, currentLength := none, currentMode := none, floor := none, lastOutcome := none,
             starving := true }

/-- STOP at every stream (R83). -/
def stop (fs : FrameStore) : FrameStore := forEach 8 stopStream fs

/-- What the Cut Engine hands on for a stream, but for a pick, is done (R83). -/
def apply (st : StreamId) (h : Handoff) (fs : FrameStore) : FrameStore :=
  match h with
  | .pick _ _ _ _ => fs
  | .setCurrent gen length mode => fs.setCurrent st gen length mode
  | .restart length mode => fs.restart st length mode
  | .setPending gen => fs.setPending st gen

/-! ### The pick (R84, R85) -/

/-- The buffer of the greatest number among `bs`. -/
def greatest (fs : FrameStore) : List BufId → Option BufId
  | [] => none
  | b :: bs =>
    match greatest fs bs with
    | none => some b
    | some c => if fs.number c < fs.number b then some b else some c

/-- The queued frames a pick may choose: generation `g`, number at or below the target. -/
def candidates (fs : FrameStore) (st : StreamId) (g target : Nat) : List BufId :=
  (fs.queue st).filter fun b => fs.ofGen g b && decide (fs.number b ≤ target)

/-- A pick needed a new frame: the picked floor is none, or the target is above it (R85). -/
def needsNew (fs : FrameStore) (st : StreamId) (target : Nat) : Bool :=
  match (fs.stream st).floor with
  | none => true
  | some f => decide (f < target)

/-- An answer that names buffer `b`: its fill number, generation and number (R84). -/
def answer (fs : FrameStore) (b : BufId) : RecordBuffer := .buffer b (fs.buf b).fill (fs.gen b) (fs.number b)

/-- The answer to a pick, the store after it, and whether STARVE is to be raised (R84, R85). -/
structure Picked where
  store : FrameStore
  buffer : RecordBuffer
  notice : Bool

/-- The pick's outcome written in the stream record, with a starve counted where it starves (R85). -/
def notePick (st : StreamId) (outcome : PickOutcome) (starves : Bool) (fs : FrameStore) : FrameStore :=
  fs.modStream st fun x =>
    { x with lastOutcome := some outcome, starving := starves,
             counts := { x.counts with starve := if starves then bump x.counts.starve else x.counts.starve } }

/-- A pick answered FRESH with buffer `b`: it leaves the queue and is HELD with `t + 1` references, the frames it
passes over are released, and it becomes last-picked (R84, case 1). -/
def pickFresh (st : StreamId) (cands : List BufId) (b : BufId) (t : Nat) (fs : FrameStore) : FrameStore :=
  let passed := cands.filter fun x => x != b
  let c := fs.number b
  (((fs.freeAll passed).dropLastPicked st).modBuf b fun x => { x with state := .held, refs := t + 1 }).modStream st
    fun x =>
      { x with
        current := x.current.filter fun y => !cands.contains y
        pending := x.pending.filter fun y => !cands.contains y
        lastPicked := some b
        floor := some c
        counts := { x.counts with passed := satAdd countMax x.counts.passed passed.length } }

/-- A pick for stream `st`, generation `g`, target `target` and tile count `t` (R84). -/
def pick (st : StreamId) (g target t : Nat) (fs : FrameStore) : Picked :=
  let cands := fs.candidates st g target
  match fs.greatest cands with
  | some b =>
    { store := (fs.pickFresh st cands b t).notePick st .fresh false, buffer := fs.answer b, notice := false }
  | none =>
    let starves := fs.needsNew st target
    let notice := starves && !(fs.stream st).starving
    match (fs.stream st).lastPicked with
    | some b =>
      { store := (fs.modBuf b fun x => { x with refs := x.refs + t }).notePick st .again starves,
        buffer := fs.answer b, notice := notice }
    | none => { store := fs.notePick st .black starves, buffer := .black, notice := notice }

/-! ### Gate probes (R87) -/

/-- The frame probe is answered FRESH or HOLD: a pick of `g` at `target` would not starve. -/
def frameProbe (fs : FrameStore) (st : StreamId) (g target : Nat) : Bool :=
  !(fs.candidates st g target).isEmpty || ((fs.stream st).currentGen == some g && !fs.needsNew st target)

/-- The first-frame probe is answered YES: frame 0 of `g` stands in the queue. -/
def firstFrameProbe (fs : FrameStore) (st : StreamId) (g : Nat) : Bool :=
  (fs.queue st).any fun b => fs.ofGen g b && fs.number b == 0

/-! ### Arrival (R79 to R81) -/

/-- The start of an arrival: the lowest FREE buffer becomes FILLING (R79). -/
def startArrival (p : PortId) (st : StreamId) (gen number width height : Nat) (fs : FrameStore) : FrameStore :=
  match fs.lowestFree with
  | none => fs
  | some b =>
    { fs.modBuf b fun x =>
        { x with state := .filling, fill := (x.fill + 1) % 2 ^ 32,
                 frame := some { stream := st, gen := gen, number := number, width := width, height := height,
                                 picture := [] } }
      with arrivals := fs.arrivals.set p (some b) }

/-- A start that finds its stream not ready: the packet is discarded and counted crossed (R79). -/
def crossed (st : StreamId) (fs : FrameStore) : FrameStore :=
  fs.modStream st fun x => { x with counts := { x.counts with crossed := bump x.counts.crossed } }

/-- What becomes of an arrived frame (R80). -/
inductive Fate where
  | late | stale | current | pending
  deriving DecidableEq, Repr

/-- The tests of R80, in order. -/
def fate (fs : FrameStore) (f : Frame) : Fate :=
  let x := fs.stream f.stream
  let has := fun (bs : List BufId) => bs.any fun b => fs.ofGen f.gen b && fs.number b == f.number
  let isFull := decide (x.config.limit ≤ fs.load f.stream)
  if !x.config.configured then .stale
  else if f.width ≠ x.config.width ∨ f.height ≠ x.config.height then .stale
  else if x.currentGen = some f.gen then
    if x.floor.any fun c => decide (f.number ≤ c) then .late
    else if x.currentMode = some .hold ∧ x.currentLength.any (fun l => decide (l - 1 < f.number)) then .stale
    else if has x.current then .stale
    else if isFull then .stale
    else .current
  else if x.pendingGen = some f.gen then
    if has x.pending then .stale
    else if isFull then .stale
    else .pending
  else .stale

/-- The end of an arrival at port `p` with the picture's bytes: the check value is formed (R88) and the frame's fate is
decided (R80). -/
def endArrival (p : PortId) (picture : List Byte) (fs : FrameStore) : FrameStore :=
  match fs.arrivals.get p with
  | none => fs
  | some b =>
    match (fs.buf b).frame with
    | none => fs
    | some f =>
      let formed := fs.modBuf b fun x => { x with check := Config.checkValue picture }
      let fs' := { formed with arrivals := fs.arrivals.set p none }
      let keep := fun (fs : FrameStore) => fs.modBuf b fun x => { x with state := .queued, frame := some { f with picture := picture } }
      match fs.fate f with
      | .late => (fs'.modBuf b Buffer.freed).modStream f.stream fun x =>
          { x with counts := { x.counts with late := bump x.counts.late } }
      | .stale => (fs'.modBuf b Buffer.freed).modStream f.stream fun x =>
          { x with counts := { x.counts with stale := bump x.counts.stale } }
      | .current => (keep fs').modStream f.stream fun x =>
          { x with current := fs.insertByNumber b x.current,
                   counts := { x.counts with accepted := bump x.counts.accepted } }
      | .pending => (keep fs').modStream f.stream fun x =>
          { x with pending := fs.insertByNumber b x.pending,
                   counts := { x.counts with accepted := bump x.counts.accepted } }

/-- An arrival cut off by the link down of its port: counted stale (R81). -/
def cutArrival (p : PortId) (fs : FrameStore) : FrameStore :=
  match fs.arrivals.get p with
  | none => fs
  | some b =>
    let st? := (fs.buf b).frame.map (·.stream)
    let fs' := { fs.modBuf b Buffer.freed with arrivals := fs.arrivals.set p none }
    match st? with
    | none => fs'
    | some st => fs'.modStream st fun x => { x with counts := { x.counts with stale := bump x.counts.stale } }

/-! ### Releases and integrity (R86, R88) -/

/-- A release that arrives: ignored when its fill number differs or the count is at 0 (R86). -/
def takeRelease (b : BufId) (fill : Nat) (fs : FrameStore) : FrameStore :=
  if (fs.buf b).fill = fill then fs.modBuf b Buffer.dropRef else fs

/-- The capture record is filled, or the overflow flag set when it is full (R88). -/
def captureFailure (c : Capture) (fs : FrameStore) : FrameStore :=
  match fs.capture with
  | none => { fs with capture := some c }
  | some _ => { fs with overflow := true }

/-- Buffer `b` found bad by the read of tile `j` for refresh `n` (R88). -/
def markBad (b : BufId) (f : Frame) (j : TileId) (n : Nat) (fs : FrameStore) : FrameStore :=
  let fs := fs.modBuf b fun x => { x with bad := true }
  let fs := if (fs.stream f.stream).lastPicked = some b then fs.dropLastPicked f.stream else fs
  let fs := fs.captureFailure
    { buffer := b, stream := f.stream, gen := f.gen, number := f.number, tile := j, refresh := n }
  { fs with failures := satAdd 255 fs.failures 1 }

/-- READ INTEGRITY's clear (R89). -/
def clearIntegrity (fs : FrameStore) : FrameStore := { fs with capture := none, overflow := false, failures := 0 }

/-! ### Configuration (R75) and WIPE (R94) -/

/-- A stream's settings written: a change of size flushes its queue, and frames beyond the new limit are flushed from
the end of the queue (R75). -/
def configure (st : StreamId) (c : StreamConfig) (fs : FrameStore) : FrameStore :=
  let old := (fs.stream st).config
  let fs := fs.modStream st fun x => { x with config := c }
  let fs := if c.width ≠ old.width ∨ c.height ≠ old.height then fs.flushAll st else fs
  let q := fs.queue st
  fs.flush st (q.drop (q.length - (fs.load st - c.limit)))

/-- A limit below `least` raised to it (R5, R75). -/
def raiseLimit (least : Nat) (x : Stream) : Stream :=
  { x with config := { x.config with limit := max x.config.limit least } }

/-- One buffer at WIPE (R94). -/
def wipeBuffer (x : Buffer) : Buffer :=
  if x.state = .retired then x else if x.bad then x.retired .integrity else x.freed

/-- WIPE at the Frame Store Controller (R94). Releases in flight are left to be ignored (R86). -/
def wipe (fs : FrameStore) : FrameStore :=
  { buffers := fs.buffers.map wipeBuffer
    streams := fs.streams.map fun x => { Stream.reset with config := x.config }
    capture := none
    overflow := false
    failures := 0
    arrivals := { a := none, b := none }
    releases := fs.releases }

/-- The buffers the frame store check failed become RETIRED with cause CHECK (R182). -/
def retireFailed (failed : BitVec 48) (fs : FrameStore) : FrameStore :=
  { fs with buffers := .ofFn fun b => if failed.getLsbD b then (fs.buf b).retired .check else fs.buf b }

/-- The streams of a port: S0 to S3 of Port A, S4 to S7 of Port B (R163). -/
def portOf (st : StreamId) : PortId := if st.val < 4 then .a else .b

/-- A change made at each stream of port `p`, in number order. -/
def forPort (p : PortId) (f : StreamId → FrameStore → FrameStore) (fs : FrameStore) : FrameStore :=
  forEach 8 (fun st fs => if portOf st = p then f st fs else fs) fs

/-- A player link comes up: the queues with flush on open set are flushed (R90). -/
def linkUp (p : PortId) (fs : FrameStore) : FrameStore :=
  fs.forPort p fun st fs => if (fs.stream st).config.flushOpen then fs.flushAll st else fs

/-- A player link goes down: its arrival is cut off and the queues with flush on close set are flushed (R90). -/
def linkDown (p : PortId) (fs : FrameStore) : FrameStore :=
  (fs.cutArrival p).forPort p fun st fs => if (fs.stream st).config.flushClose then fs.flushAll st else fs

end FrameStore

end Sys2Proof.Machine
end

