-- ==== Sys2Proof/Machine/LayoutOps.lean ====
section
/-! DEFINITION. Wall positions, panes, the viewport arithmetic and the applying of a TAKE LAYOUT (chapter 3). -/

namespace Sys2Proof.Machine

namespace Geometry

/-- Column of position `j` (R45: j = r × columns + c). -/
def colOf (g : Geometry) (j : Nat) : Nat := j % g.cols
/-- Row of position `j`. -/
def rowOf (g : Geometry) (j : Nat) : Nat := j / g.cols

/-- Position `j` exists under the geometry (R45). -/
def isPosition (g : Geometry) (j : Nat) : Bool := decide (j < g.cols * g.rows)

/-- The existing positions in number order. -/
def positions (g : Geometry) : List TileId := (List.finRange 24).filter fun j => g.isPosition j.val

/-- Position `j` lies inside a pane (R50). -/
def inPane (g : Geometry) (p : Pane) (j : Nat) : Bool :=
  decide (p.col ≤ g.colOf j) && decide (g.colOf j < p.col + p.width) &&
  decide (p.row ≤ g.rowOf j) && decide (g.rowOf j < p.row + p.height)

/-- The existing positions a pane spans (R48). -/
def spanned (g : Geometry) (p : Pane) : List TileId := g.positions.filter fun j => g.inPane p j.val

/-- Position `j` is one of those a layout covers (R50). -/
def covers (g : Geometry) (panes : List Pane) (j : TileId) : Bool :=
  g.isPosition j.val && panes.any fun p => g.inPane p j.val

/-- Two layouts cover at least one existing position in common (R100). -/
def overlap (g : Geometry) (ps qs : List Pane) : Bool := g.positions.any fun j => g.covers ps j && g.covers qs j

/-- The unclamped origin of position `j` in a pane (R51, step 1). -/
def unclamped (g : Geometry) (p : Pane) (j : Nat) : Nat × Nat :=
  (p.originX + (g.colOf j - p.col) * (g.tileW + g.gapH), p.originY + (g.rowOf j - p.row) * (g.tileH + g.gapV))

/-- The map entry of position `j` in a pane of stream `st` whose picture is `w` × `h` (R51, R52). -/
def viewport (g : Geometry) (p : Pane) (st : StreamId) (w h : Nat) (j : Nat) : MapEntry :=
  let (ux, uy) := g.unclamped p j
  let x := min ux (w - g.tileW)
  let y := min uy (h - g.tileH)
  { source := .stream st, x := x, y := y, clamped := decide (x < ux) || decide (y < uy) }

end Geometry

namespace LayoutStore

/-- The entry a pane writes at position `j`: BLACK for a BLACK source and for a stream that is not configured
(R54, R55). -/
def paneEntry (b : LayoutStore) (fs : FrameStore) (p : Pane) (j : Nat) : MapEntry :=
  match p.source with
  | .black => .black
  | .stream st =>
    let c := (fs.stream st).config
    if c.configured then b.geometry.viewport p st c.width c.height j else .black

/-- One pane applied: every existing position it covers is written (R54). -/
def applyPane (fs : FrameStore) (b : LayoutStore) (p : Pane) : LayoutStore :=
  { b with map := .ofFn fun j =>
      if b.geometry.isPosition j.val && b.geometry.inPane p j.val then b.paneEntry fs p j.val else b.map.get j }

/-- A TAKE of layout `l` applied by the commit of refresh `n` (R54, R55). -/
def take (fs : FrameStore) (l : LayoutId) (n : Nat) (b : LayoutStore) : LayoutStore :=
  { (b.table.get l).foldl (applyPane fs) b with lastTake := some (l, n) }

/-- WIPE (R57). -/
def wipe (b : LayoutStore) : LayoutStore := { b with map := .fill 24 .black, lastTake := none }

end LayoutStore

/-- Every pane field is inside its range of R46, and so the pane can be stored (R47, check 3). -/
def RawPane.inRange (p : RawPane) : Bool :=
  decide (p.source ≤ 8) && decide (p.col ≤ 7) && decide (p.row ≤ 5) && decide (1 ≤ p.width) && decide (p.width ≤ 8) &&
  decide (1 ≤ p.height) && decide (p.height ≤ 6) && decide (p.originX ≤ 65535) && decide (p.originY ≤ 65535)

/-- The source a code names: S0..S7, then BLACK (R46, R169). -/
def sourceOfCode (n : Nat) : Source := if h : n < 8 then .stream ⟨n, h⟩ else .black

/-- The pane that raw fields name. -/
def RawPane.toPane (p : RawPane) : Pane :=
  { source := sourceOfCode p.source, col := p.col, row := p.row, width := p.width, height := p.height,
    originX := p.originX, originY := p.originY }

/-- A pane list that passes R47 check 3, or none. -/
def checkPanes (ps : List RawPane) : Option (List Pane) :=
  if decide (ps.length ≤ 8) && ps.all RawPane.inRange then some (ps.map RawPane.toPane) else none

end Sys2Proof.Machine
end

