-- ==== Sys2Proof/Machine/Lines.lean ====
section
/-! DEFINITION. General lines and interval timers as their records change (8.1, 8.2). -/

namespace Sys2Proof.Machine

/-! ### Lines -/

/-- The settled level the raw level gives, read through the polarity (R133, R134). -/
def Line.reading (l : Line) : Bool :=
  match l.config.polarity with
  | .activeHigh => l.rawHigh
  | .activeLow => !l.rawHigh

/-- The settled level retaken from the raw level with no edge, any running count stopped (R134). -/
def Line.retake (l : Line) : Line := { l with settled := l.reading, debounceCount := none }

/-- A pulse asked of the line: ignored outside OUTPUT mode (R135). -/
def Line.pulse (width : Nat) (l : Line) : Line :=
  if l.config.mode = .output then { l with pulseCount := some width, pulses := bump l.pulses } else l

/-- The settings written, with the effects of R134 and R135: entering INPUT mode, and a change of polarity there,
retake the settled level; leaving INPUT mode stops the debounce count (DEDUCED, log 33); leaving OUTPUT mode ends a
pulse. -/
def Line.configure (c : LineConfig) (l : Line) : Line :=
  let entersInput := c.mode = .input ∧ l.config.mode ≠ .input
  let turns := c.mode = .input ∧ c.polarity ≠ l.config.polarity
  let leavesInput := c.mode ≠ .input
  let l' := { l with config := c }
  let l' := if entersInput ∨ turns then l'.retake else l'
  let l' := if leavesInput then { l' with debounceCount := none } else l'
  if c.mode ≠ .output then { l' with pulseCount := none } else l'

/-- The settled edge of an INPUT line: the level the raw level gives is taken and counted (R134). -/
def Line.settle (l : Line) : Line :=
  if l.reading then { l with settled := true, debounceCount := none, rises := bump l.rises }
  else { l with settled := false, debounceCount := none, falls := bump l.falls }

/-- The driven level (R133), from the wall error flag and the lit state. -/
def Line.drivenLevel (error dark : Bool) (l : Line) : Drive :=
  match l.config.mode with
  | .input => .released
  | .error => if error then .active else .inactive
  | .output =>
    match dark, l.config.dark with
    | true, .active => .active
    | true, .inactive => .inactive
    | _, _ => if l.pulseCount.isSome then .active else l.config.commanded

/-- The pin a driven level puts on the line, through the polarity; RELEASED leaves it to the pull (R133). -/
def LineConfig.pin (c : LineConfig) : Drive → PinLevel
  | .active => match c.polarity with | .activeHigh => .drivenHigh | .activeLow => .drivenLow
  | .inactive => match c.polarity with | .activeHigh => .drivenLow | .activeLow => .drivenHigh
  | .released => match c.pull with | .up => .pulledHigh | .down => .pulledLow | .none => .undriven

/-- The settings and counts a line takes at store load: an INPUT line retakes its settled level with no edge, and any
other has no debounce count (R132, R155; log 33). -/
def Line.load (c : LineConfig) (l : Line) : Line :=
  let l' := { l with config := c, rises := 0, falls := 0, pulses := 0 }
  if c.mode = .input then l'.retake else { l' with debounceCount := none }

/-- Debounce and pulse counts down by one tick (R134, R135); the debounce count moves in INPUT mode alone (R132). -/
def Line.tick (l : Line) : Line :=
  { l with
    debounceCount := if l.config.mode = .input then l.debounceCount.map (· - 1) else l.debounceCount
    pulseCount := l.pulseCount.map (· - 1) }

namespace LineBlock

/-- The committed state of refresh `n` compared with the state in force for refresh `n − 1`; a change is scheduled
(R136). -/
def commitNotice (n : Nat) (dark : Bool) (b : LineBlock) : LineBlock :=
  let before := (b.schedule.getLast?.map (·.2)).getD b.dark
  if dark = before then b else { b with schedule := b.schedule ++ [(n, dark)] }

/-- At boundary `m` the due changes are applied in order and removed (R136). -/
def boundary (m : Nat) (b : LineBlock) : LineBlock :=
  let due := b.schedule.filter fun c => decide (c.1 ≤ m)
  { b with dark := (due.getLast?.map (·.2)).getD b.dark, schedule := b.schedule.filter fun c => decide (m < c.1) }

/-- The lit state LIT and the schedule empty (R136: at RUN, STOP and WIPE). -/
def relight (b : LineBlock) : LineBlock := { b with dark := false, schedule := [] }

/-- The commanded level of the lines of `mask` (R145, step 5). -/
def command (mask : BitVec 12) (level : Drive) (b : LineBlock) : LineBlock :=
  { b with lines := .ofFn fun l =>
      let x := b.lines.get l
      if mask.getLsbD l then { x with config := { x.config with commanded := level } } else x }

/-- A pulse on each line of `mask` (R145, step 5). -/
def pulse (mask : BitVec 12) (b : LineBlock) : LineBlock :=
  { b with lines := .ofFn fun l =>
      let x := b.lines.get l
      if mask.getLsbD l then x.pulse b.pulseWidth else x }

/-- The lines part of an action (R145). -/
def act (part : LinesPart) (b : LineBlock) : LineBlock :=
  ((b.command part.setMask .active).command part.clearMask .inactive).pulse part.pulseMask

end LineBlock

/-- The eight common pulse widths (R132 table). -/
def pulseWidths : List Nat := [30, 60, 120, 300, 600, 1200, 3000, 6000]

/-! ### Timers -/

namespace Timer

/-- A start (R139). -/
def begin (value : Nat) (rep : Bool) (who : Starter) (t : Timer) : Timer :=
  { t with running := true, count := value, start := value, rep := rep, starter := some who }

/-- A stop: the count is dropped, and is 0 while STOPPED (DESIGN CHOICE: log 59); no expiry is taken (R139). -/
def halt (t : Timer) : Timer := { t with running := false, count := 0 }

/-- The count down by one tick while RUNNING (R139). -/
def tick (t : Timer) : Timer := if t.running then { t with count := t.count - 1 } else t

/-- An expiry: counted; a repeating timer reloads, another stops (R139). -/
def expire (t : Timer) : Timer :=
  if t.rep then { t with expiries := bump t.expiries, count := t.start }
  else { t with expiries := bump t.expiries, running := false, count := 0 }

/-- What the timers part of trigger `k`'s action does to a timer (R145). -/
def act (k : TriggerId) (a : TimerAct) (t : Timer) : Timer :=
  match a with
  | .none => t
  | .stop => t.halt
  | .start value rep => t.begin value rep (.trigger k)

end Timer

end Sys2Proof.Machine
end

