-- ==== Sys2Proof/Machine/Triggers.lean ====
section
/-! DEFINITION. Triggers: comparisons and edges, what a firing does, and the wall error record (8.3 to 8.5). -/

namespace Sys2Proof.Machine

/-! ### Conditions -/

/-- The greatest value of a comparison, or none for a condition that is not one (R142). -/
def Condition.maxValue : Condition → Option Nat
  | .clock => some maxClock
  | .boundary => some maxRefresh
  | .commit => some maxRefresh
  | .frame _ => some maxNumber
  | .loops _ => some maxNumber
  | .starves _ => some countMax
  | _ => Option.none

/-- The condition is a comparison (R142). -/
def Condition.isComparison (c : Condition) : Bool := c.maxValue.isSome

/-- The present value of a comparison; none while it is none or absent (R142). In TESTING a BOUNDARY comparison that is
read for a marks action or a retake reads the test boundary number that Wall Timing holds (DESIGN CHOICE: log 42). -/
def Condition.value (s : State) : Condition → Option Nat
  | .clock => some s.wall.clock
  | .boundary => s.wall.newest
  | .commit => s.plan.newest
  | .frame st => (s.triggers.values.get st).map (·.number)
  | .loops st => (s.triggers.values.get st).map (·.loops)
  | .starves st => (s.triggers.values.get st).map (·.starves)
  | _ => Option.none

/-- The comparison of a trigger: its value has reached its mark (R142). -/
def Trigger.holds (s : State) (t : Trigger) : Bool :=
  match t.defn.condition.value s, t.defn.mark with
  | some v, some m => decide (m ≤ v)
  | _, _ => false

/-- The last value of a trigger retaken from its comparison as it stands, without firing (R143). Edge conditions keep
none (R144). -/
def State.retakeLast (k : TriggerId) (s : State) : State :=
  s.modTrigger k fun t => if t.defn.condition.isComparison then { t with last := t.holds s } else t

/-- An event the Trigger Unit is told of (R142). -/
inductive Stimulus where
  /-- a show tick or a SET CLOCK -/
  | clock
  | boundary
  | commit
  | values (st : StreamId)
  | edge (l : LineId) (rise : Bool)
  | timer (t : TimerId)
  | advertEnd (st : StreamId)
  | loopWrap (st : StreamId)
  | tileFault (j : TileId)
  | wall (w : WallState)
  deriving DecidableEq, Repr

/-- The event can change the comparison's value, so the comparison is evaluated (R142). -/
def Stimulus.evaluates (e : Stimulus) (c : Condition) : Bool :=
  match e, c with
  | .clock, .clock => true
  | .boundary, .boundary => true
  | .commit, .commit => true
  | .values st, .frame st' => st == st'
  | .values st, .loops st' => st == st'
  | .values st, .starves st' => st == st'
  | .wall _, c => c.isComparison
  | _, _ => false

/-- The wall state a WALL condition names (R142). -/
def WallCondition.state : WallCondition → WallState
  | .stopped => .stopped
  | .running => .running
  | .dark => .dark
  | .testing => .testing

/-- A subject that is ANY, or the one named (R144). -/
def subjectMatches {α : Type} [DecidableEq α] (subject : Option α) (x : α) : Bool :=
  match subject with
  | none => true
  | some y => y == x

/-- The event is of the edge condition's kind and matches its subject (R142, R144). -/
def Stimulus.matchesEdge (e : Stimulus) (c : Condition) : Bool :=
  match e, c with
  | .edge l rise, .line l' k => l == l' && (match k with | .rise => rise | .fall => !rise | .either => true)
  | .timer t, .timer t' => t == t'
  | .advertEnd st, .advertEnd x => subjectMatches x st
  | .loopWrap st, .loopWrap x => subjectMatches x st
  | .tileFault j, .tileFault x => subjectMatches x j
  | .wall w, .wall c => w == c.state
  | _, _ => false

/-! ### A firing -/

/-- The mark a change gives, or none where the change does not act (R146). -/
def MarkChange.result (c : MarkChange) (value mark : Option Nat) : Option Nat :=
  match c with
  | .capture offset => value.map (· + offset)
  | .advance step => mark.map (· + step)

namespace State

/-- The marks part acts on trigger `k`: the mark is held at the maximum of its value, and the last value is retaken
(R146). -/
def changeMark (c : MarkChange) (k : TriggerId) (s : State) : State :=
  let t := s.trigger k
  match t.defn.condition.maxValue, c.result (t.defn.condition.value s) t.defn.mark with
  | some top, some m =>
    let s' := s.modTrigger k fun t =>
      { t with defn := { t.defn with mark := some (min m top) }, markSaturated := t.markSaturated || decide (top < m) }
    s'.retakeLast k
  | _, _ => s

/-- Step 3 of a firing, on each target in number order (R146). -/
def firingMarks (part : Option MarksPart) (s : State) : State :=
  match part with
  | none => s
  | some m => forEach 8 (fun k s => if m.targets.getLsbD k then s.changeMark m.change k else s) s

/-- Step 4 of a firing: timer 0 and then timer 1 (R145). -/
def firingTimers (k : TriggerId) (part : Option (TimerAct × TimerAct)) (s : State) : State :=
  match part with
  | none => s
  | some (a0, a1) => s.modTriggers fun u =>
      { u with timers := (u.timers.modify 0 (Timer.act k a0)).modify 1 (Timer.act k a1) }

/-- Step 5 of a firing (R145). -/
def firingLines (part : Option LinesPart) (s : State) : State :=
  match part with
  | none => s
  | some p => s.modLines (LineBlock.act p)

/-- The due of a trigger's post, taken at the firing (R147). -/
def triggerDue (s : State) : TriggerDue → RawDue
  | .after delay => .time (min (s.wall.clock + delay) maxClock)
  | .next offset => .next offset

/-- Step 6 of a firing: the post is queued, or merged into the one that is pending (R147). -/
def firingPost (k : TriggerId) (part : Option PostPart) (s : State) : State :=
  match part with
  | none => s
  | some p =>
    if (s.trigger k).postPending then s.modTrigger k fun t => { t with merged := bump t.merged }
    else
      let raw : RawPost := { params := some p.params, due := some (s.triggerDue p.due), tail := some p.tail }
      (s.modTriggers fun u => { u with posts := u.posts ++ [{ trigger := k, raw := raw, firedAt := s.wall.clock }] })
        |>.modTrigger k fun t => { t with postPending := true }

/-- The notice raised at each port of trigger `k`'s notify mask. -/
def notifyTrigger (k : TriggerId) (n : Notice) (s : State) : State :=
  let d := (s.trigger k).defn
  let s := if d.notifyA then s.raise .a n else s
  if d.notifyB then s.raise .b n else s

/-- Steps 1 to 7 of a firing of trigger `k` (R145). -/
def fireSteps (k : TriggerId) (src : FireSource) (s : State) : State :=
  let action := (s.trigger k).defn.action
  let s := s.modTrigger k fun t =>
    { t with enabled := t.enabled && !t.defn.once, fires := bump t.fires, lastFire := some (src, s.wall.clock) }
  let s := s.firingMarks action.marks
  let s := s.firingTimers k action.timers
  let s := s.firingLines action.lines
  let s := s.firingPost k action.post
  s.notifyTrigger k .trigger

/-- The chain part: each trigger of the set, in number order, that is enabled when its turn comes performs steps 1 to 7
(R148). -/
def fireChain (k : TriggerId) (chain : Option (BitVec 8)) (s : State) : State :=
  match chain with
  | none => s
  | some set =>
    forEach 8 (fun m s => if set.getLsbD m && (s.trigger m).enabled then s.fireSteps m (.chain k) else s) s

/-- A firing of trigger `k` that is not itself chained (R145, R148). -/
def fire (k : TriggerId) (src : FireSource) (s : State) : State :=
  let chain := (s.trigger k).defn.action.chain
  (s.fireSteps k src).fireChain k chain

/-- Fires each enabled trigger of a mask in number order (R151). -/
def fireMask (mask : BitVec 8) (src : FireSource) (s : State) : State :=
  forEach 8 (fun k s => if mask.getLsbD k && (s.trigger k).enabled then s.fire k src else s) s

/-- What trigger `k` does at an event: a comparison writes its last value and fires when it becomes true (R143); an edge
condition fires at each event that matches (R144). Each comparison is evaluated at its trigger's turn, so after the marks
actions of the triggers before it (DESIGN CHOICE: log 50). -/
def reactOne (e : Stimulus) (k : TriggerId) (s : State) : State :=
  let t := s.trigger k
  if e.evaluates t.defn.condition then
    let now := t.holds s
    let s' := s.modTrigger k fun t => { t with last := now }
    if t.enabled && now && !t.last then s'.fire k .condition else s'
  else if t.enabled && e.matchesEdge t.defn.condition then s.fire k .condition
  else s

/-- The Trigger Unit takes an event: the triggers in number order (R145). -/
def react (e : Stimulus) (s : State) : State := forEach 8 (reactOne e) s

/-! ### The wall error (R153) -/

/-- Every trigger becomes disabled (R15, R153, R154). -/
def disableAll (s : State) : State :=
  s.modTriggers fun u => { u with triggers := u.triggers.map fun t => { t with enabled := false } }

/-- The wall error is set (R153). -/
def setError (cause : ErrorCause) (s : State) : State :=
  let s := s.modTriggers fun u =>
    { u with error := { flag := true, cause := if u.error.flag then u.error.cause else some cause,
                        count := bump u.error.count } }
  if s.triggers.disableOnError then s.disableAll else s

/-! ### Changes of wall state (R6) -/

/-- The Trigger Unit and the ports are told of a change of wall state that has been made: WALL is raised at each port
but the one whose request made it (R6). -/
def announceWall (sender : Option PortId) (s : State) : State :=
  let s := if sender = some .a then s else s.raise .a .wall
  let s := if sender = some .b then s else s.raise .b .wall
  s.react (.wall s.wall.state)

end State

end Sys2Proof.Machine
end

