-- ==== Sys2Proof/Machine/CueOps.lean ====
section
/-! DEFINITION. The cue list, the history, ids, the order of cues, pending generations and what is handed to the Frame
Store Controller (chapter 2, R102). -/

namespace Sys2Proof.Machine

/-! ### Due refreshes (1.8) -/

/-- ceil(x / d) for exact integers. -/
def ceilDiv (x d : Nat) : Nat := (x + d - 1) / d

/-- The due refresh of show time `t` against epoch `e` (R17). -/
def dueOf (e period t : Nat) : Nat := if e < t then ceilDiv (t - e) period else 0

/-- The show time E + n × Pw, held at 2^48−1 (R18). -/
def timeOf (e period n : Nat) : Nat := min (e + n * period) maxClock

/-- The epoch of a RUN taken at `t`: the first whole multiple of the period strictly after it (R9). -/
def epochAt (t period : Nat) : Nat := (t / period + 1) * period

/-! ### The list and its order (R21) -/

namespace Cue

/-- The stream and generation of a START ADVERT. -/
def advert (c : Cue) : Option (StreamId × Nat) :=
  match c.kind with
  | .startAdvert st gen _ _ _ => some (st, gen)
  | _ => none

/-- The layout of a TAKE LAYOUT. -/
def takes (c : Cue) : Option LayoutId :=
  match c.kind with
  | .takeLayout l => some l
  | _ => none

/-- The due a cue is ordered by: N while the wall runs, T while it is STOPPED (R21). -/
def orderKey (running : Bool) (c : Cue) : Nat := if running then c.due.getD 0 else c.time

/-- `c` stands before `d`: by due, then by sequence (R21). -/
def before (running : Bool) (c d : Cue) : Bool :=
  let x := c.orderKey running
  let y := d.orderKey running
  decide (x < y) || (x == y && decide (c.seq ≤ d.seq))

end Cue

/-- A cue inserted at its place (R21). -/
def insertCue (running : Bool) (c : Cue) : List Cue → List Cue
  | [] => [c]
  | d :: ds => if d.before running c then d :: insertCue running c ds else c :: d :: ds

/-- The list set in order (R21: at STOP and at RUN). -/
def sortCues (running : Bool) (cs : List Cue) : List Cue := cs.foldr (insertCue running) []

namespace CueStore

/-- The id is held by a cue of the list or an entry of the history (R20). -/
def idUsed (q : CueStore) (id : Nat) : Bool := q.list.any (·.id == id) || q.history.any (·.id == id)

/-- The id after `id`: after 65535 comes 1 (R20). -/
def idAfter (id : Nat) : Nat := if 65535 ≤ id then 1 else id + 1

/-- The first id from `id` on that neither the list nor the history holds, within `fuel` steps (R20: 97 suffice). -/
def findId (q : CueStore) : Nat → Nat → Nat
  | 0, id => id
  | fuel + 1, id => if q.idUsed id then q.findId fuel (idAfter id) else id

/-- The cues renumbered 1, 2, 3 and so on in list order (R21). -/
def renumber : Nat → List Cue → List Cue
  | _, [] => []
  | n, c :: cs => { c with seq := n } :: renumber (n + 1) cs

/-- A cue inserted with a fresh id and sequence; the list is renumbered when the sequence would pass 2^32−1
(R20, R21). `make` builds the record from its id and sequence. -/
def insert (running : Bool) (make : Nat → Nat → Cue) (q : CueStore) : CueStore × Cue :=
  let id := q.findId 97 q.nextId
  let c := make id q.nextSeq
  let list := insertCue running c q.list
  let q' := { q with list := list, nextId := idAfter id, nextSeq := q.nextSeq + 1 }
  if maxNumber < q'.nextSeq then
    ({ q' with list := renumber 1 list, nextSeq := list.length + 1 }, c)
  else (q', c)

/-- A history entry appended; the oldest leaves when 32 are held (R22). -/
def appendHistory (e : HistoryEntry) (q : CueStore) : CueStore :=
  { q with history := (if 32 ≤ q.history.length then q.history.drop 1 else q.history) ++ [e] }

/-- A cue taken out of the list; next sequence returns to 1 when the list becomes empty (R21). -/
def remove (id : Nat) (q : CueStore) : CueStore :=
  let list := q.list.filter fun c => c.id != id
  { q with list := list, nextSeq := if list.isEmpty then 1 else q.nextSeq }

/-- The cue with an id, when the list holds it. -/
def find (q : CueStore) (id : Nat) : Option Cue := q.list.find? fun c => c.id == id

/-- The pending generation of a stream: that of the first START ADVERT for it in list order (R41). -/
def pendingOf (q : CueStore) (st : StreamId) : Option Nat :=
  q.list.findSome? fun c => match c.advert with
    | some (st', gen) => if st' = st then some gen else none
    | none => none

/-- At STOP a cue loses its N and a WAITING cue becomes ARMED; the list is set in the stopped order (R39). -/
def stopCues (q : CueStore) : CueStore :=
  { q with list := sortCues false (q.list.map fun c => { c with due := none, waiting := false }) }

/-- WIPE: the list and the history are emptied, the hold ends, next sequence is 1; next id is kept (R42). -/
def wipe (q : CueStore) : CueStore :=
  { q with list := [], history := [], hold := none, nextSeq := 1, pendingGen := .fill 8 none }

end CueStore

namespace Handoff

/-- The item is a pick. -/
def isPick : Handoff → Bool
  | .pick _ _ _ _ => true
  | _ => false

/-- The item is a pending generation. -/
def isPending : Handoff → Bool
  | .setPending _ => true
  | _ => false

end Handoff

namespace State

/-! ### Handing on to the Frame Store Controller (R41, R102) -/

/-- The items at the front of a stream's waiting list that are no picks are done, up to the next pick (R102). -/
def drainHandoffs (st : StreamId) : List Handoff → State → State
  | [], s => s.modPlan fun p => { p with handoffs := p.handoffs.set st [] }
  | h :: hs, s =>
    if h.isPick then s.modPlan fun p => { p with handoffs := p.handoffs.set st (h :: hs) }
    else drainHandoffs st hs (s.modStore (FrameStore.apply st h))

/-- An item handed on for stream `st` in its turn: a pick waits for PICK, and a change of generation waits behind what was
handed on before it (R102). -/
def handOn (st : StreamId) (h : Handoff) (s : State) : State :=
  let waiting := s.plan.handoffs.get st
  if h.isPick || !waiting.isEmpty then s.modPlan fun p => { p with handoffs := p.handoffs.set st (waiting ++ [h]) }
  else s.modStore (FrameStore.apply st h)

/-- A pending generation handed on for stream `st` at once, past whatever waits (R41). An older one that waits behind a
change of generation is never handed on after it (DESIGN CHOICE: log 63). -/
def handPending (st : StreamId) (gen : Option Nat) (s : State) : State :=
  (s.modPlan fun p => { p with handoffs := p.handoffs.modify st (·.filter fun h => !h.isPending) }).modStore
    (FrameStore.setPending st gen)

/-- The pending generation of stream `st` recomputed from the list and, when it changed, handed on by `hand` (R41). -/
def recomputeBy (hand : Option Nat → State → State) (st : StreamId) (s : State) : State :=
  let gen := s.cues.pendingOf st
  if gen = s.cues.pendingGen.get st then s
  else hand gen (s.modCues fun q => { q with pendingGen := q.pendingGen.set st gen })

/-- The recomputation at an admission, a cancel, a retiring or a reordering: a change is handed on at once (R41). -/
def recomputePending (st : StreamId) (s : State) : State := s.recomputeBy (handPending st) st

/-- The recomputation that ends the application of a START ADVERT: a change is handed on after the change of the current
generation (R60, R61, R102). -/
def recomputeInTurn (st : StreamId) (s : State) : State := s.recomputeBy (fun gen => handOn st (.setPending gen)) st

/-- The pending generation of every stream recomputed (R40, R41). -/
def recomputeAllPending (s : State) : State := forEach 8 recomputePending s

/-! ### Retiring (R22) -/

/-- The CUE notice of a retired cue: raised at the port that owns it, or by the notify mask of the trigger that does
(R22). -/
def notifyCue (o : Owner) (s : State) : State :=
  match o with
  | .port p => s.raise p .cue
  | .console => s
  | .trigger k => s.notifyTrigger k .cue

/-- The outcome raises CUE (R22). -/
def raisesCue : CueOutcome → Bool
  | .applied => false
  | .cancelled => false
  | _ => true

/-- A cue is retired: it leaves the list, its history entry is appended, CUE is raised where the outcome asks for it,
and its stream's pending generation is recomputed by `recompute` (R22, R41). -/
def retireBy (recompute : StreamId → State → State) (c : Cue) (outcome : CueOutcome) (refresh : Option Nat) (s : State) : State :=
  let s := s.modCues fun q => (q.remove c.id).appendHistory
    { id := c.id, owner := c.owner, kind := c.kind, outcome := outcome, refresh := refresh }
  let s := if raisesCue outcome then s.notifyCue c.owner else s
  match c.advert with
  | some (st, _) => recompute st s
  | none => s

/-- A cue retired in any way but by its application; a new pending generation is handed on at once (R41). -/
def retire : Cue → CueOutcome → Option Nat → State → State := retireBy recomputePending

/-- A cue retired by its application; a new pending generation is handed on in its turn (R60, R61). -/
def retireApplied : Cue → CueOutcome → Option Nat → State → State := retireBy recomputeInTurn

end State

end Sys2Proof.Machine
end

