-- ==== Sys2Proof/Machine/Operands.lean ====
section
/-! DEFINITION. How the bytes of a request body are read (R161, R169) and how the fields of a response are written
(R169): every operand form of the requests. A reader answers `none` when the body is too short, or when a presence byte
or flag holds a value outside its range. -/

namespace Sys2Proof.Machine

namespace Wire

/-! ### Reading -/

/-- A number of `k` bytes, low byte first (R169), and the bytes after it. -/
def num : Nat → List Byte → Option (Nat × List Byte)
  | 0, bs => some (0, bs)
  | _ + 1, [] => none
  | k + 1, b :: bs =>
    match num k bs with
    | none => none
    | some (n, rest) => some (b.toNat + 256 * n, rest)

/-- A flag: 01h set, 00h clear (log 15). -/
def flag (bs : List Byte) : Option (Bool × List Byte) :=
  match num 1 bs with
  | some (0, rest) => some (false, rest)
  | some (1, rest) => some (true, rest)
  | _ => none

/-- An optional field: a presence byte, 01h when the field follows and 00h when it does not (R169). -/
def opt {α : Type} (read : List Byte → Option (α × List Byte)) (bs : List Byte) : Option (Option α × List Byte) :=
  match flag bs with
  | none => none
  | some (false, rest) => some (none, rest)
  | some (true, rest) =>
    match read rest with
    | none => none
    | some (x, rest') => some (some x, rest')

/-- `k` fields of one kind in a row. -/
def rep {α : Type} (read : List Byte → Option (α × List Byte)) : Nat → List Byte → Option (List α × List Byte)
  | 0, bs => some ([], bs)
  | k + 1, bs =>
    match read bs with
    | none => none
    | some (x, rest) =>
      match rep read k rest with
      | none => none
      | some (xs, rest') => some (x :: xs, rest')

/-- A list, preceded by a one-byte count (R169). -/
def list {α : Type} (read : List Byte → Option (α × List Byte)) (bs : List Byte) : Option (List α × List Byte) :=
  match num 1 bs with
  | none => none
  | some (k, rest) => rep read k rest

/-! ### Writing -/

/-- `k` bytes of `n`, low byte first (R169). -/
def le : Nat → Nat → List Byte
  | 0, _ => []
  | k + 1, n => BitVec.ofNat 8 n :: le k (n / 256)

/-- One byte. -/
def u8 (n : Nat) : List Byte := le 1 n
/-- Two bytes. -/
def u16 (n : Nat) : List Byte := le 2 n
/-- A content number, a timer count or a sequence: four bytes. -/
def u32 (n : Nat) : List Byte := le 4 n
/-- A refresh or boundary number: five bytes (R169). -/
def refresh (n : Nat) : List Byte := le 5 n
/-- A show time: six bytes (R169). -/
def time (n : Nat) : List Byte := le 6 n
/-- A flag (log 15). -/
def bit (b : Bool) : List Byte := u8 (if b then 1 else 0)
/-- A field that may be none or absent (R169). -/
def maybe {α : Type} (write : α → List Byte) : Option α → List Byte
  | none => [0x00]
  | some x => 0x01 :: write x
/-- A list, preceded by a one-byte count (R169). -/
def many {α : Type} (write : α → List Byte) (xs : List α) : List Byte := u8 xs.length ++ xs.flatMap write

end Wire

/-! ### Names and their codes (R169: 0, 1, 2 and so on in the order the owning rule lists them) -/

def WallState.code : WallState → Nat
  | .starting => 0 | .halted => 1 | .stopped => 2 | .running => 3 | .dark => 4 | .testing => 5
def EndMode.code : EndMode → Nat
  | .loop => 0 | .hold => 1
def EndMode.ofCode : Nat → Option EndMode
  | 0 => some .loop | 1 => some .hold | _ => none
def LatePolicy.code : LatePolicy → Nat
  | .strict => 0 | .slip => 1
def LatePolicy.ofCode : Nat → Option LatePolicy
  | 0 => some .strict | 1 => some .slip | _ => none
def OnTimeout.code : OnTimeout → Nat
  | .force => 0 | .drop => 1
def OnTimeout.ofCode : Nat → Option OnTimeout
  | 0 => some .force | 1 => some .drop | _ => none
def portCode : PortId → Nat
  | .a => 0 | .b => 1
/-- PORT A, PORT B, CONSOLE, TRIGGER k (R19). -/
def Owner.code : Owner → Nat
  | .port p => portCode p | .console => 2 | .trigger k => 3 + k.val
def CueKind.code : CueKind → Nat
  | .takeLayout _ => 0 | .startAdvert _ _ _ _ _ => 1 | .setLevel _ _ => 2 | .goDark => 3 | .wake => 4
  | .fireTriggers _ => 5
def CueOutcome.code : CueOutcome → Nat
  | .applied => 0 | .forced => 1 | .dropped => 2 | .superseded => 3 | .cancelled => 4 | .late => 5
/-- UNKNOWN is coded after LATE (R33). -/
def unknownOutcome : Nat := 6
def ArbGroup.ofCode : Nat → Option ArbGroup
  | 0 => some .high | 1 => some .low | _ => none
def Source.code : Source → Nat
  | .stream st => st.val | .black => 8
def LineMode.code : LineMode → Nat
  | .input => 0 | .output => 1 | .error => 2
def LineMode.ofCode : Nat → Option LineMode
  | 0 => some .input | 1 => some .output | 2 => some .error | _ => none
def Polarity.code : Polarity → Nat
  | .activeHigh => 0 | .activeLow => 1
def Polarity.ofCode : Nat → Option Polarity
  | 0 => some .activeHigh | 1 => some .activeLow | _ => none
def Pull.code : Pull → Nat
  | .none => 0 | .up => 1 | .down => 2
def Pull.ofCode : Nat → Option Pull
  | 0 => some .none | 1 => some .up | 2 => some .down | _ => Option.none
def DarkLevel.code : DarkLevel → Nat
  | .follow => 0 | .active => 1 | .inactive => 2
def DarkLevel.ofCode : Nat → Option DarkLevel
  | 0 => some .follow | 1 => some .active | 2 => some .inactive | _ => none
def Drive.code : Drive → Nat
  | .active => 0 | .inactive => 1 | .released => 2
def Drive.ofCode : Nat → Option Drive
  | 0 => some .active | 1 => some .inactive | 2 => some .released | _ => none

/-- A number below `n` as an index. -/
def index? (n k : Nat) : Option (Fin n) := if h : k < n then some ⟨k, h⟩ else none

/-! ### Request bodies -/

namespace Wire

/-- The parameters of a cue kind, in the order of R19; `none` for a kind that is not one of the six. -/
def params (kind : Nat) (bs : List Byte) : Option (RawParams × List Byte) :=
  match kind with
  | 0 => do
    let (l, bs) ← num 1 bs
    return (.takeLayout l, bs)
  | 1 => do
    let (st, bs) ← num 1 bs
    let (gen, bs) ← num 1 bs
    let (rate, bs) ← num 1 bs
    let (len, bs) ← num 3 bs
    let (mode, bs) ← num 1 bs
    return (.startAdvert st gen rate len mode, bs)
  | 2 => do
    let (l, bs) ← num 1 bs
    let (r, bs) ← num 2 bs
    return (.setLevel l r, bs)
  | 3 => some (.goDark, bs)
  | 4 => some (.wake, bs)
  | 5 => do
    let (m, bs) ← num 1 bs
    return (.fireTriggers m, bs)
  | _ => none

/-- A due form TIME or NEXT with its number (R26). -/
def due (bs : List Byte) : Option (RawDue × List Byte) := do
  let (form, bs) ← num 1 bs
  match form with
  | 0 => do
    let (t, bs) ← num 6 bs
    return (.time t, bs)
  | 1 => do
    let (o, bs) ← num 1 bs
    return (.next o, bs)
  | _ => none

/-- Late policy, gate, patience and on timeout (R26). -/
def tail (bs : List Byte) : Option (RawTail × List Byte) := do
  let (late, bs) ← num 1 bs
  let (gate, bs) ← num 1 bs
  let (patience, bs) ← opt (num 1) bs
  let (onTimeout, bs) ← opt (num 1) bs
  return ({ late := late, gate := gate, patience := patience, onTimeout := onTimeout }, bs)

/-- The body of a POST CUE (R26), each part as far as it can be read. -/
def post (bs : List Byte) : RawPost :=
  match (num 1 bs).bind fun (k, bs) => params k bs with
  | none => { params := none, due := none, tail := none }
  | some (ps, bs) =>
    match due bs with
    | none => { params := some ps, due := none, tail := none }
    | some (d, bs) => { params := some ps, due := some d, tail := (tail bs).map (·.1) }

/-- One pane, its fields in the order of R46. -/
def pane (bs : List Byte) : Option (RawPane × List Byte) := do
  let (source, bs) ← num 1 bs
  let (col, bs) ← num 1 bs
  let (row, bs) ← num 1 bs
  let (width, bs) ← num 1 bs
  let (height, bs) ← num 1 bs
  let (ox, bs) ← num 2 bs
  let (oy, bs) ← num 2 bs
  return ({ source := source, col := col, row := row, width := width, height := height, originX := ox, originY := oy },
    bs)

/-- A trim pair: position and trim (R109). -/
def trim (bs : List Byte) : Option ((Nat × Nat) × List Byte) := do
  let (j, bs) ← num 1 bs
  let (v, bs) ← num 1 bs
  return ((j, v), bs)

end Wire

/-- The fields of CONFIGURE WALL: rate and horizon (R5), groups (R25), geometry (R44), trims (R109). -/
structure WallFields where
  rate : Option Nat
  horizon : Option Nat
  groups : List (Option Nat)
  tileW : Option Nat
  tileH : Option Nat
  gapH : Option Nat
  gapV : Option Nat
  trims : Option (List (Nat × Nat))
  deriving DecidableEq, Repr

/-- The fields of CONFIGURE STREAM after the stream (R75). -/
structure StreamFields where
  width : Option Nat
  height : Option Nat
  limit : Option Nat
  flushOpen : Option Bool
  flushClose : Option Bool
  deriving DecidableEq, Repr

/-- The fields of SET LINE (R137). -/
structure LineFields where
  line : Option Nat
  mode : Option Nat
  polarity : Option Nat
  pull : Option Nat
  debounce : Option Nat
  dark : Option Nat
  commanded : Option Nat
  width : Option Nat
  deriving DecidableEq, Repr

/-- The settings of a line that SET LINE and G5 carry, as numbers (R132). -/
structure RawLine where
  mode : Nat
  polarity : Nat
  pull : Nat
  debounce : Nat
  dark : Nat
  commanded : Nat
  deriving DecidableEq, Repr

/-- The settings named by codes, each in its set (R137, R183). -/
def RawLine.check (r : RawLine) : Option LineConfig := do
  let mode ← LineMode.ofCode r.mode
  let polarity ← Polarity.ofCode r.polarity
  let pull ← Pull.ofCode r.pull
  let dark ← DarkLevel.ofCode r.dark
  let commanded ← Drive.ofCode r.commanded
  if r.debounce ≤ 65535 then
    some { mode := mode, polarity := polarity, pull := pull, debounce := r.debounce, dark := dark,
           commanded := commanded }
  else none

namespace Wire

/-- The body of CONFIGURE WALL. -/
def wallFields (bs : List Byte) : Option WallFields := do
  let (rate, bs) ← opt (num 1) bs
  let (horizon, bs) ← opt (num 1) bs
  let (groups, bs) ← rep (opt (num 1)) 4 bs
  let (tw, bs) ← opt (num 2) bs
  let (th, bs) ← opt (num 2) bs
  let (gh, bs) ← opt (num 1) bs
  let (gv, bs) ← opt (num 1) bs
  let (trims, _) ← opt (list trim) bs
  return { rate := rate, horizon := horizon, groups := groups, tileW := tw, tileH := th, gapH := gh, gapV := gv,
           trims := trims }

/-- The fields of CONFIGURE STREAM after the stream. -/
def streamFields (bs : List Byte) : Option StreamFields := do
  let (w, bs) ← opt (num 2) bs
  let (h, bs) ← opt (num 2) bs
  let (q, bs) ← opt (num 1) bs
  let (fo, bs) ← opt flag bs
  let (fc, _) ← opt flag bs
  return { width := w, height := h, limit := q, flushOpen := fo, flushClose := fc }

/-- The body of SET LINE. -/
def lineFields (bs : List Byte) : Option LineFields := do
  let (l, bs) ← opt (num 1) bs
  let (mode, bs) ← opt (num 1) bs
  let (pol, bs) ← opt (num 1) bs
  let (pull, bs) ← opt (num 1) bs
  let (deb, bs) ← opt (num 2) bs
  let (dark, bs) ← opt (num 1) bs
  let (cmd, bs) ← opt (num 1) bs
  let (w, _) ← opt (num 2) bs
  return { line := l, mode := mode, polarity := pol, pull := pull, debounce := deb, dark := dark, commanded := cmd,
           width := w }

/-- The body of DEFINE LAYOUT (R47). -/
def layoutFields (bs : List Byte) : Option (Nat × List RawPane) := do
  let (l, bs) ← num 1 bs
  let (ps, _) ← list pane bs
  return (l, ps)

/-- A condition with its subject, when both are of R142's sets (R149, check 4). -/
def condition (bs : List Byte) : Option (Condition × List Byte) := do
  let (kind, bs) ← num 1 bs
  match kind with
  | 0 => some (.none, bs)
  | 1 => some (.clock, bs)
  | 2 => some (.boundary, bs)
  | 3 => some (.commit, bs)
  | 4 => do
    let (st, bs) ← num 1 bs
    let st ← index? 8 st
    return (.frame st, bs)
  | 5 => do
    let (st, bs) ← num 1 bs
    let st ← index? 8 st
    return (.loops st, bs)
  | 6 => do
    let (st, bs) ← num 1 bs
    let st ← index? 8 st
    return (.starves st, bs)
  | 7 => do
    let (l, bs) ← num 1 bs
    let l ← index? 12 l
    let (e, bs) ← num 1 bs
    match e with
    | 0 => some (.line l .rise, bs)
    | 1 => some (.line l .fall, bs)
    | 2 => some (.line l .either, bs)
    | _ => none
  | 8 => do
    let (t, bs) ← num 1 bs
    let t ← index? 2 t
    return (.timer t, bs)
  | 9 => do
    let (st, bs) ← num 1 bs
    if st = 8 then some (.advertEnd none, bs) else (index? 8 st).map fun st => (.advertEnd (some st), bs)
  | 10 => do
    let (st, bs) ← num 1 bs
    if st = 8 then some (.loopWrap none, bs) else (index? 8 st).map fun st => (.loopWrap (some st), bs)
  | 11 => do
    let (j, bs) ← num 1 bs
    if j = 24 then some (.tileFault none, bs) else (index? 24 j).map fun j => (.tileFault (some j), bs)
  | 12 => do
    let (w, bs) ← num 1 bs
    match w with
    | 0 => some (.wall .stopped, bs)
    | 1 => some (.wall .running, bs)
    | 2 => some (.wall .dark, bs)
    | 3 => some (.wall .testing, bs)
    | _ => none
  | _ => none

/-- The bytes of a comparison's mark: the fewest that hold its range (R142, R169). -/
def markBytes : Condition → Option Nat
  | .clock => some 6
  | .boundary => some 5
  | .commit => some 5
  | .frame _ => some 4
  | .loops _ => some 4
  | .starves _ => some 2
  | _ => none

/-- The mark of a condition: present for a comparison and absent otherwise (R141, R149); a mark with another condition is
refused (DESIGN CHOICE: log 65). -/
def mark (c : Condition) (bs : List Byte) : Option (Option Nat × List Byte) :=
  match markBytes c with
  | some k =>
    match opt (num k) bs with
    | some (some m, rest) => some (some m, rest)
    | _ => none
  | none =>
    match flag bs with
    | some (false, rest) => some (none, rest)
    | _ => none

/-- A set of eight triggers. -/
def set8 (bs : List Byte) : Option (BitVec 8 × List Byte) := (num 1 bs).map fun (n, bs) => (BitVec.ofNat 8 n, bs)

/-- A set of the twelve lines; a bit above them is outside the set. -/
def set12 (bs : List Byte) : Option (BitVec 12 × List Byte) := do
  let (n, bs) ← num 2 bs
  if n < 2 ^ 12 then some (BitVec.ofNat 12 n, bs) else none

/-- The marks part: a step of 0 is refused (R149). -/
def marksPart (bs : List Byte) : Option (MarksPart × List Byte) := do
  let (targets, bs) ← set8 bs
  let (form, bs) ← num 1 bs
  let (v, bs) ← num 4 bs
  match form with
  | 0 => some ({ targets := targets, change := .capture v }, bs)
  | 1 => if v = 0 then none else some ({ targets := targets, change := .advance v }, bs)
  | _ => none

/-- STOP, or START with its start value and repeat flag (R141). -/
def timerChange (bs : List Byte) : Option (TimerAct × List Byte) := do
  let (form, bs) ← num 1 bs
  match form with
  | 0 => some (.stop, bs)
  | 1 => do
    let (v, bs) ← num 4 bs
    let (r, bs) ← flag bs
    return (.start v r, bs)
  | _ => none

/-- What the timers part does to one timer, an optional field since it may be none (R141, R169). -/
def timerAct (bs : List Byte) : Option (TimerAct × List Byte) := do
  let (a, bs) ← opt timerChange bs
  return (a.getD .none, bs)

/-- The timers part: timer 0 and timer 1. -/
def timersPart (bs : List Byte) : Option ((TimerAct × TimerAct) × List Byte) := do
  let (a0, bs) ← timerAct bs
  let (a1, bs) ← timerAct bs
  return ((a0, a1), bs)

/-- The lines part: the set and clear masks share no line (R149). -/
def linesPart (bs : List Byte) : Option (LinesPart × List Byte) := do
  let (s, bs) ← set12 bs
  let (c, bs) ← set12 bs
  let (p, bs) ← set12 bs
  if s &&& c = 0 then some ({ setMask := s, clearMask := c, pulseMask := p }, bs) else none

/-- The due of a trigger's post (R141). -/
def triggerDue (bs : List Byte) : Option (TriggerDue × List Byte) := do
  let (form, bs) ← num 1 bs
  match form with
  | 0 => do
    let (d, bs) ← num 4 bs
    return (.after d, bs)
  | 1 => do
    let (o, bs) ← num 1 bs
    return (.next o, bs)
  | _ => none

/-- The post part of an action, its parts in the order of R141. Patience and on timeout are kept as carried, also with gate
NONE (DESIGN CHOICE: log 71). -/
def postPart (bs : List Byte) : Option (PostPart × List Byte) := do
  let (kind, bs) ← num 1 bs
  let (ps, bs) ← params kind bs
  let (d, bs) ← triggerDue bs
  let (t, bs) ← tail bs
  return ({ params := ps, due := d, tail := t }, bs)

/-- The five optional parts of an action, in the order of R141. -/
def action (bs : List Byte) : Option (Action × List Byte) := do
  let (marks, bs) ← opt marksPart bs
  let (timers, bs) ← opt timersPart bs
  let (lines, bs) ← opt linesPart bs
  let (post, bs) ← opt postPart bs
  let (chain, bs) ← opt set8 bs
  return ({ marks := marks, timers := timers, lines := lines, post := post, chain := chain }, bs)

/-- The definition a SET TRIGGER carries after the trigger number (R149, but for the checks of its post). -/
def triggerDef (bs : List Byte) : Option TriggerDef := do
  let (c, bs) ← condition bs
  let (m, bs) ← mark c bs
  let (mode, bs) ← num 1 bs
  let (act, bs) ← action bs
  let (notify, _) ← num 1 bs
  if mode ≤ 1 ∧ notify < 4 then
    some { condition := c, mark := m, once := mode == 0, action := act, notifyA := notify.testBit 0,
           notifyB := notify.testBit 1 }
  else none

end Wire

/-! ### Response fields -/

namespace Wire

def kindParams : CueKind → List Byte
  | .takeLayout l => u8 l.val
  | .startAdvert st gen rate length mode => u8 st.val ++ u8 gen ++ u8 rate ++ le 3 length ++ u8 mode.code
  | .setLevel target ramp => u8 target ++ u16 ramp
  | .goDark => []
  | .wake => []
  | .fireTriggers mask => u8 mask.toNat

/-- A cue record, its fields in the order of R19. -/
def cue (c : Cue) : List Byte :=
  u16 c.id ++ u8 c.owner.code ++ u8 c.kind.code ++ kindParams c.kind ++ time c.time ++ maybe refresh c.due ++
  u8 c.late.code ++
  (match c.gate with
   | .none => u8 0 ++ [0x00] ++ [0x00]
   | .ready p o => u8 1 ++ maybe u8 (some p) ++ maybe u8 (some o.code)) ++
  u8 (if c.waiting then 1 else 0) ++ u32 c.seq

/-- A history entry, its fields in the order of R22. -/
def history (e : HistoryEntry) : List Byte :=
  u16 e.id ++ u8 e.owner.code ++ u8 e.kind.code ++ u8 e.outcome.code ++ maybe refresh e.refresh

def paneFields (p : Pane) : List Byte :=
  u8 p.source.code ++ u8 p.col ++ u8 p.row ++ u8 p.width ++ u8 p.height ++ u16 p.originX ++ u16 p.originY

end Wire

end Sys2Proof.Machine
end

