-- ==== Sys2Proof/Machine/TileOps.lean ====
section
/-! DEFINITION. The Tile Link Controllers: taking, sending and ending dispatches, misses and faults, training and hellos
(chapter 7), and the plan records a tile's departure abandons (R103, R104). -/

namespace Sys2Proof.Machine

/-! ### Plan records -/

namespace TileRecord

/-- The buffer and fill number a record names. -/
def named (r : TileRecord) : Option (BufId × Nat) :=
  match r.buffer with
  | .buffer b fill _ _ => some (b, fill)
  | _ => none

/-- The record is OPEN and is position `j`'s. -/
def openAt (j : TileId) (r : TileRecord) : Bool := r.pos == j && r.disposition == .opened

end TileRecord

namespace PlanEntry

/-- The buffers that OPEN records chosen by `which` name: one release each is owed when they leave (R104, R111). -/
def owed (which : TileRecord → Bool) (e : PlanEntry) : List (BufId × Nat) :=
  (e.records.filter fun r => which r && r.disposition == .opened).filterMap TileRecord.named

/-- The OPEN records of position `j` become ABANDONED (R104). -/
def abandon (j : TileId) (e : PlanEntry) : PlanEntry :=
  { e with records := e.records.map fun r => if r.openAt j then { r with disposition := .abandoned } else r }

/-- The OPEN record of position `j` becomes TAKEN (R103). -/
def take (j : TileId) (e : PlanEntry) : PlanEntry :=
  { e with records := e.records.map fun r => if r.openAt j then { r with disposition := .taken } else r }

/-- No record is OPEN any more (R103). -/
def spent (e : PlanEntry) : Bool := e.records.all fun r => r.disposition != .opened

end PlanEntry

namespace Plan

/-- Entries whose refresh's boundary has been announced and whose records are all TAKEN or ABANDONED are removed
(R103). -/
def prune (newest : Option Nat) (p : Plan) : Plan :=
  { p with entries := p.entries.filter fun e => !(newest.any (fun m => decide (e.refresh ≤ m)) && e.spent) }

/-- The record position `j` can take of refresh `n`: the entry is complete and the record OPEN (R121). -/
def recordFor (p : Plan) (j : TileId) (n : Nat) : Option TileRecord :=
  match p.entries.find? fun e => e.refresh == n && e.complete with
  | none => none
  | some e => e.records.find? (TileRecord.openAt j)

end Plan

/-! ### Dispatches -/

/-- The buffer a payload's release is owed for (R122, R123). -/
def Payload.named : Payload → Option (BufId × Nat)
  | .record r => r.named
  | _ => none

namespace Phase

/-- What the dispatch carries, once it has its record (R122). -/
def load : Phase → Option Payload
  | .awaitingEntry => none
  | .queued p => some p
  | .sending p _ => some p

end Phase

/-- The release a dispatch owes when it ends or is abandoned (R122, R123). -/
def Dispatch.owed (d : Dispatch) : List (BufId × Nat) := (d.phase.load.bind Payload.named).toList

/-- The part of a picture of width `pw` that starts at `x`, `y` and is `w` × `h` pixels, in pixel order (R171). -/
def crop (picture : List Byte) (pw x y w h : Nat) : List Byte :=
  (List.range h).flatMap fun r => (picture.drop (((y + r) * pw + x) * 3)).take (w * 3)

namespace State

/-- The OPEN records of position `j` are abandoned and one release is sent for each that names a buffer (R104); an entry
that this leaves with nothing to wait for is removed (R103). -/
def abandonRecords (j : TileId) (s : State) : State :=
  let rel := s.plan.entries.flatMap (PlanEntry.owed fun r => r.pos == j)
  (s.modPlan fun p => Plan.prune s.wall.newest { p with entries := p.entries.map (PlanEntry.abandon j) }).modStore
    fun fs => { fs with releases := fs.releases ++ rel }

/-- Every pending dispatch of tile `j` is abandoned, each release it owes is sent, and the awaiting reports are emptied
(R123). -/
def abandonDispatches (j : TileId) (s : State) : State :=
  let rel := (s.tile j).dispatches.flatMap Dispatch.owed
  (s.modTile j fun t => { t with dispatches := [], awaiting := [] }).modStore
    fun fs => { fs with releases := fs.releases ++ rel }

/-- Tile `j` leaves LIVE: its dispatches and OPEN records are abandoned and it has no first planned refresh (R116,
R118, R120). -/
def leaveLive (j : TileId) (s : State) : State :=
  ((s.abandonDispatches j).abandonRecords j).modTile j fun t => { t with first := none }

/-- A tile fault (R116): the Trigger Unit takes it, TILE FAULT conditions first and then the wall error (R153). -/
def faultTile (j : TileId) (reason : FaultReason) (s : State) : State :=
  let s := if s.live j then s.leaveLive j else s
  let s := s.modTile j fun t =>
    { t with state := .faulted, reason := some reason, training := none,
             totals := { t.totals with faults := bump t.totals.faults } }
  let s := (s.react (.tileFault j)).setError (.tileFault j reason)
  s.raiseBoth .tile

/-! ### Sending (R122) -/

/-- The dispatch header for a payload, and whether a buffer is read and sent; a buffer whose bad flag is set is sent as
BLACK (R122, R171). -/
def dispatchHeader (s : State) (j : TileId) (n : Nat) (load : Payload) : TileMsg × Bool :=
  let g := s.layouts.geometry
  match load with
  | .marker => (.dispatch n .marker 0 0 0 0 0 0 0 [], false)
  | .test =>
    (.dispatch n .test 255 0 0 g.tileW g.tileH g.tileW g.tileH
      ((List.range (g.tileW * g.tileH * 3)).map (Config.testByte j n)), false)
  | .record r =>
    let black := (TileMsg.dispatch n .black r.level r.x r.y 0 0 0 0 [], false)
    match r.buffer with
    | .buffer b _ _ _ =>
      let x := s.buffer b
      match x.bad, x.frame with
      | false, some f =>
        let w := min (r.x + g.tileW) f.width - r.x
        let h := min (r.y + g.tileH) f.height - r.y
        (.dispatch n .picture r.level r.x r.y f.width f.height w h (crop f.picture f.width r.x r.y w h), true)
      | _, _ => black
    | _ => black

/-- The dispatch is sent BLACK for a bad buffer, and counted so (R122). -/
def sendsBadBuffer (s : State) (load : Payload) : Bool := load.named.any fun bf => (s.buffer bf.1).bad

/-- The first dispatch of tile `j`'s list becomes SENDING once it is QUEUED: every earlier one has ended (R122). -/
def pump (j : TileId) (s : State) : State :=
  match (s.tile j).dispatches with
  | [] => s
  | d :: ds =>
    match d.phase with
    | .queued load =>
      let (msg, reading) := s.dispatchHeader j d.refresh load
      let black := s.sendsBadBuffer load
      s.modTile j fun t =>
        { t with
          dispatches := { d with phase := .sending load reading } :: ds
          sent := t.sent ++ [msg]
          totals := { t.totals with
            integrityBlack := if black then bump t.totals.integrityBlack else t.totals.integrityBlack } }
    | _ => s

/-- The dispatch at the head of tile `j`'s list ends: its end is sent, it leaves the list, its release is sent, and the
next one starts (R122, R124). -/
def endDispatch (j : TileId) (kind : EndKind) (s : State) : State :=
  match (s.tile j).dispatches with
  | [] => s
  | d :: ds =>
    let s := s.modTile j fun t => { t with dispatches := ds, sent := t.sent ++ [.dispatchEnd d.refresh kind] }
    let s := s.modStore fun fs => { fs with releases := fs.releases ++ d.owed }
    s.pump j

/-- Tile `j` takes the records its waiting dispatches can take now (R102, R121). -/
def serveTile (j : TileId) (s : State) : State :=
  let ready := fun (d : Dispatch) =>
    match d.phase with
    | .awaitingEntry => s.plan.recordFor j d.refresh
    | _ => none
  let taken := (s.tile j).dispatches.filterMap fun d => (ready d).map fun _ => d.refresh
  let s' := s.modPlan fun p =>
    { p with entries := p.entries.map fun e => if taken.contains e.refresh && e.complete then e.take j else e }
  (s'.modTile j fun t =>
    { t with dispatches := t.dispatches.map fun d =>
        match ready d with
        | some r => { d with phase := .queued (.record r) }
        | none => d }).pump j

/-- Every tile takes the records its waiting dispatches can take now. -/
def serveAll (s : State) : State := forEach 24 serveTile s

/-! ### Boundaries (R121, R123, R125) -/

/-- The dispatches of tile `j` for refreshes below `m` have overrun: each is sent a void end, its release is sent, and
it is counted; a record one still waited for is abandoned (R123; log 8). -/
def overrun (j : TileId) (m : Nat) (s : State) : State :=
  let late := (s.tile j).dispatches.filter fun d => decide (d.refresh < m)
  if late.isEmpty then s
  else
    let rel := late.flatMap Dispatch.owed
    let missed := (late.filter fun d => d.phase.load.isNone).map (·.refresh)
    let owed := (s.plan.entries.filter fun e => missed.contains e.refresh).flatMap
      (PlanEntry.owed fun r => r.pos == j)
    let s := s.modPlan fun p =>
      { p with entries := p.entries.map fun e => if missed.contains e.refresh then e.abandon j else e }
    let s := s.modStore fun fs => { fs with releases := fs.releases ++ rel ++ owed }
    (s.modTile j fun t =>
      { t with
        dispatches := t.dispatches.filter fun d => !decide (d.refresh < m)
        sent := t.sent ++ late.map fun d => .dispatchEnd d.refresh .voidEnd
        totals := { t.totals with overrun := satAdd countMax t.totals.overrun late.length } }).pump j

/-- A miss of tile `j`: outside TESTING it lengthens the miss run and the third faults the tile (R125, R126); in
TESTING it is handed to the console instead (R129). -/
def countMiss (j : TileId) (s : State) : State :=
  let s := s.modTile j fun t => { t with totals := { t.totals with misses := bump t.totals.misses } }
  if s.wall.state = .testing then
    if s.console.mode = .test then s.modConsole fun c => { c with errors := bump c.errors } else s
  else
    let s := s.modTile j fun t => { t with missRun := t.missRun + 1 }
    if 3 ≤ (s.tile j).missRun then s.faultTile j .misses else s

/-- At boundary `m` the deadline of refresh m − 2 is judged (R125). -/
def judgeDeadline (j : TileId) (m : Nat) (s : State) : State :=
  if decide (2 ≤ m) && (s.tile j).awaiting.contains (m - 2) then
    (s.modTile j fun t => { t with awaiting := t.awaiting.filter (· != m - 2) }).countMiss j
  else s

/-- A dispatch added to tile `j`'s list, and its refresh to the awaiting reports (R121, R129). -/
def addDispatch (j : TileId) (n : Nat) (phase : Phase) (s : State) : State :=
  s.modTile j fun t =>
    { t with
      dispatches := t.dispatches ++ [{ refresh := n, phase := phase }]
      awaiting := t.awaiting ++ [n]
      totals := { t.totals with dispatched := bump t.totals.dispatched } }

/-- At boundary `m` a LIVE tile of depth D takes the dispatch of refresh m + D: a black marker before its first planned
refresh, and its plan record from there on (R121). -/
def takeDispatch (j : TileId) (m : Nat) (s : State) : State :=
  let t := s.tile j
  match t.depth with
  | none => s
  | some d =>
    let n := m + d
    let phase := if t.first.any fun f => decide (f ≤ n) then Phase.awaitingEntry else .queued .marker
    (s.addDispatch j n phase).serveTile j

/-- What tile `j`'s controller does at boundary `m` while the wall runs: the deadline before the dispatch (R125), and the
overruns before both (DESIGN CHOICE: R123 does not place them, log 49). -/
def tileBoundary (m : Nat) (j : TileId) (s : State) : State :=
  let s := if s.live j then (s.overrun j m).judgeDeadline j m else s
  if s.live j then s.takeDispatch j m else s

/-- What tile `j`'s controller does at test boundary `m`, in the same order (R129; log 49). -/
def tileTestBoundary (m : Nat) (j : TileId) (s : State) : State :=
  let s := if s.live j then (s.overrun j m).judgeDeadline j m else s
  if s.live j then
    match (s.tile j).depth with
    | none => s
    | some d => (s.addDispatch j (m + d) (.queued .test)).pump j
  else s

/-- Each tile link that is up is sent a sync marker (R11, R16). -/
def sendSync (m : Nat) (test : Bool) (s : State) : State :=
  s.modTiles fun ts => ts.map fun t => if t.linkUp then { t with sent := t.sent ++ [.sync m test] } else t

/-! ### Training and hellos (R117, R118, R120) -/

/-- Entry to TRAINING: the count is set, the depths are cleared and a training request is sent (R117). -/
def enterTraining (j : TileId) (s : State) : State :=
  s.modTile j fun t =>
    { t with state := .training, reason := none, training := some 60000, helloDepth := none, depth := none,
             sent := t.sent ++ [.trainingRequest] }

/-- The first planned refresh of a tile that enters LIVE now (R121). -/
def firstPlanned (s : State) : Option Nat :=
  if s.wallRuns then some (match s.plan.newest with | none => 0 | some k => k + 1) else none

/-- A hello judged as in TRAINING: LIVE, or FAULTED DEPTH (R118). -/
def judgeHello (j : TileId) (d : Nat) (s : State) : State :=
  let depth := (s.tile j).override.or (if d ≤ 7 then some d else none)
  let s := s.modTile j fun t => { t with helloDepth := some d, depth := depth, training := none }
  match depth with
  | none => s.faultTile j .depth
  | some x =>
    if s.wall.horizon < x then s.faultTile j .depth
    else
      let f := s.firstPlanned
      (s.modTile j fun t =>
        { t with state := .live, missRun := 0, dispatches := [], awaiting := [], first := f }).raiseBoth .tile

/-- The console learns that the wrapped channel has closed (R177). -/
def closeWrap (s : State) : State :=
  (s.modConsole fun c => { c with target := none }).consoleBack [.linkDown]

/-- Tile `j`'s link goes down while it is TRAINING, LIVE or FAULTED (R120); in another state nothing happens
(R115). -/
def tileDown (j : TileId) (s : State) : State :=
  match (s.tile j).state with
  | .off => s
  | .down => s
  | _ =>
    let wrapped := (s.tile j).wrapped
    let s := if s.live j then s.leaveLive j else s
    let s := s.modTile j fun t =>
      { t with state := .down, linkUp := false, reason := none, training := none, helloDepth := none, depth := none,
               first := none, wrapped := false }
    if wrapped then s.closeWrap else s

end State

end Sys2Proof.Machine
end

