-- ==== Sys2Proof/Machine/Commit.lean ====
section
/-! DEFINITION. The commit of a refresh: due cues, gates and supersession, adverts and picks, levels, the plan entry and
its completion (chapters 4 and 6). -/

namespace Sys2Proof.Machine

/-! ### The frame number of a refresh (4.3) -/

/-- The content frame number c(n), saturating at 2^32−1 (R64). -/
def frameNumber (n start rate wallRate : Nat) : Nat := min ((n - start) * rate / wallRate) maxNumber

/-- The target of content frame number `c` (R65). -/
def targetOf (mode : EndMode) (length c : Nat) : Nat :=
  match mode with
  | .loop => c
  | .hold => min c (length - 1)

namespace Timeline

/-- The content frame number of refresh `n` (R64). -/
def number (t : Timeline) (n wallRate : Nat) : Nat := frameNumber n t.start t.rate wallRate

/-- The target of refresh `n` (R65). -/
def target (t : Timeline) (n wallRate : Nat) : Nat := targetOf t.mode t.length (t.number n wallRate)

/-- A new advert set going by the commit of refresh `n` (R60). -/
def begun (n gen rate length : Nat) (mode : EndMode) (cueId : Nat) : Timeline :=
  { gen := gen, start := n, rate := rate, length := length, mode := mode, cueId := cueId, latestRefresh := none,
    latestNumber := none, latestTarget := none, loops := 0, ended := false }

/-- The advert restarted by the commit of refresh `n` (R61). -/
def restarted (t : Timeline) (n rate length : Nat) (mode : EndMode) (cueId : Nat) : Timeline :=
  { t with start := n, rate := rate, length := length, mode := mode, cueId := cueId, loops := 0, ended := false }

/-- LOOP mode, and floor(c / L) has risen above the loop count (R66). -/
def wraps (t : Timeline) (c : Nat) : Bool := t.mode == .loop && decide (t.loops < c / t.length)

/-- HOLD mode, c has reached L − 1 and the ended flag is clear (R67). -/
def ends (t : Timeline) (c : Nat) : Bool := t.mode == .hold && decide (t.length - 1 ≤ c) && !t.ended

/-- The timeline with refresh `n`'s number and target written, and the loop count or ended flag updated (R65 to
R67). -/
def advance (t : Timeline) (n wallRate : Nat) : Timeline :=
  let c := t.number n wallRate
  { t with
    latestRefresh := some n
    latestNumber := some c
    latestTarget := some (t.target n wallRate)
    loops := if t.wraps c then c / t.length else t.loops
    ended := t.ended || t.ends c }

end Timeline

namespace Plan

/-! ### The wall level (6.5) -/

/-- A SET LEVEL applied at refresh `n`; `before` is the level of refresh `n − 1` (R107). -/
def setLevel (n before target length : Nat) (p : Plan) : Plan :=
  if length = 0 then { p with level := target, ramp := none }
  else { p with ramp := some { start := n, fromLevel := before, target := target, length := length } }

/-- Stage 3's level at refresh `n`: L0 + trunc((L1 − L0) × k / R) while k < R, then L1 and the ramp is absent
(R107). -/
def stepRamp (n : Nat) (p : Plan) : Plan :=
  match p.ramp with
  | none => p
  | some r =>
    let k := n - r.start
    if k < r.length then
      let step := (((r.target : Int) - (r.fromLevel : Int)) * (k : Int)).tdiv (r.length : Int)
      { p with level := ((r.fromLevel : Int) + step).toNat }
    else { p with level := r.target, ramp := none }

/-- The drive level of a wall level and a trim (R108). -/
def driveLevel (level trim : Nat) : Nat := level * (trim + 1) / 256

/-- The ramp completed at its target (R111). -/
def completeRamp (p : Plan) : Plan :=
  match p.ramp with
  | none => p
  | some r => { p with level := r.target, ramp := none }

/-! ### Entries (6.3) -/

/-- The entries of refreshes at or below `m` that are incomplete are completed as they stand: a record whose pick is
unanswered takes BLACK (R102). -/
def forceComplete (m : Nat) (p : Plan) : Plan :=
  { p with entries := p.entries.map fun e =>
      if decide (e.refresh ≤ m) && !e.complete then
        { e with
          complete := true
          unanswered := []
          records := e.records.map fun r => if r.buffer = .awaiting then { r with buffer := .black } else r }
      else e }

/-- The answer to stream `st`'s pick written into every record of an entry whose source is the stream; the entry is
complete when it was the last answer waited for (R101, R102). -/
def fillEntry (st : StreamId) (buffer : RecordBuffer) (e : PlanEntry) : PlanEntry :=
  let rest := e.unanswered.filter (· != st)
  { e with
    unanswered := rest
    complete := rest.isEmpty
    records := e.records.map fun r => if r.source = .stream st then { r with buffer := buffer } else r }

/-- The entry of refresh `n` still waits for stream `st`'s pick. -/
def awaits (n : Nat) (st : StreamId) (e : PlanEntry) : Bool :=
  e.refresh == n && !e.complete && e.unanswered.contains st

/-- How many records an answer fills that are still OPEN (R102). -/
def openFor (n : Nat) (st : StreamId) (p : Plan) : Nat :=
  ((p.entries.filter (awaits n st)).map fun e =>
    (e.records.filter fun r => r.source == .stream st && r.disposition == .opened).length).sum

end Plan

namespace State

/-! ### Gates (R97) -/

/-- A pane keeps a TAKE's gate open at refresh `n`: it covers no existing position, is BLACK, or its stream has a current
advert whose frame is there. -/
def paneReady (n : Nat) (s : State) (p : Pane) : Bool :=
  match p.source with
  | .black => true
  | .stream st =>
    (s.layouts.geometry.spanned p).isEmpty ||
      (match s.adverts.get st with
       | none => false
       | some t => s.store.frameProbe st t.gen (t.target n s.wall.rate))

/-- The READY gate of a cue is satisfied at the commit of refresh `n`. -/
def gateOpen (n : Nat) (s : State) : CueKind → Bool
  | .takeLayout l => (s.layouts.table.get l).all (s.paneReady n)
  | .startAdvert st gen _ _ _ => s.store.firstFrameProbe st gen
  | _ => true

/-! ### Applying (R99) -/

/-- A change of committed state made by a commit (R13). -/
def commitWall (w : WallState) (s : State) : State :=
  if s.wallRuns && s.wall.state != w then (s.modWall fun x => { x with state := w }).announceWall none else s

/-- A START ADVERT applied by the commit of refresh `n` (R60, R61). -/
def startAdvert (n : Nat) (st : StreamId) (gen rate length : Nat) (mode : EndMode) (cueId : Nat) (s : State) : State :=
  match s.adverts.get st with
  | some t =>
    if t.gen = gen then
      (s.modAdverts fun a => a.set st (some (t.restarted n rate length mode cueId))).handOn st (.restart length mode)
    else
      (s.modAdverts fun a => a.set st (some (.begun n gen rate length mode cueId))).handOn st
        (.setCurrent gen length mode)
  | none =>
    (s.modAdverts fun a => a.set st (some (.begun n gen rate length mode cueId))).handOn st
      (.setCurrent gen length mode)

/-- The effect of a cue's kind at refresh `n`; `before` is the level of refresh `n − 1` (R99). -/
def applyKind (n before : Nat) (c : Cue) (s : State) : State :=
  match c.kind with
  | .takeLayout l => s.modLayouts (LayoutStore.take s.store l n)
  | .startAdvert st gen rate length mode => s.startAdvert n st gen rate length mode c.id
  | .setLevel target ramp => s.modPlan (Plan.setLevel n before target ramp)
  | .goDark => s.commitWall .dark
  | .wake => s.commitWall .running
  | .fireTriggers mask => s.fireMask mask (.cue c.id)

/-- A WAITING cue is overtaken by the application of a cue of kind `k` (R100). -/
def overtakes (s : State) (k : CueKind) (c : Cue) : Bool :=
  c.waiting &&
  (match k, c.kind with
   | .takeLayout l, .takeLayout l' =>
     s.layouts.geometry.overlap (s.layouts.table.get l) (s.layouts.table.get l')
   | .startAdvert st _ _ _ _, .startAdvert st' _ _ _ _ => st == st'
   | _, _ => false)

/-- The WAITING cues an application supersedes are retired in list order (R100). -/
def supersede (n : Nat) (k : CueKind) (s : State) : State :=
  (s.cues.list.filter (s.overtakes k)).foldl (fun s c => s.retire c .superseded (some n)) s

/-- A cue applied, retired, and the cues it overtakes retired (R96, R99, R100). -/
def applyCue (n before : Nat) (c : Cue) (outcome : CueOutcome) (s : State) : State :=
  ((s.applyKind n before c).retireApplied c outcome (some n)).supersede n c.kind

/-- A cue becomes WAITING in its place (R98). -/
def makeWaiting (id : Nat) (s : State) : State :=
  s.modCues fun q => { q with list := q.list.map fun c => if c.id = id then { c with waiting := true } else c }

/-- One cue of the set, taken in its turn; one retired by an earlier cue is skipped (R96, R98). -/
def takeCue (n before : Nat) (s : State) (id : Nat) : State :=
  match s.cues.find id with
  | none => s
  | some c =>
    match c.gate with
    | .none => s.applyCue n before c .applied
    | .ready patience onTimeout =>
      if s.gateOpen n c.kind then s.applyCue n before c .applied
      else if n - c.due.getD 0 < patience then s.makeWaiting id
      else
        match onTimeout with
        | .force => s.applyCue n before c .forced
        | .drop => s.retire c .dropped (some n)

/-- Stage 1: the cues due at or below `n`, in list order, the set fixed at the start (R96). -/
def applyDue (n : Nat) (s : State) : State :=
  let ids := (s.cues.list.filter fun c => c.due.any fun d => decide (d ≤ n)).map (·.id)
  ids.foldl (takeCue n s.plan.level) s

/-! ### Stage 2 (R68) -/

/-- The number of LIVE tiles whose wall map source is stream `st` (R68, R102). -/
def tilesShowing (st : StreamId) (s : State) : Nat :=
  ((List.finRange 24).filter fun j => s.live j && (s.layouts.map.get j).source == .stream st).length

/-- The LOOP WRAP or END of a stream, raised to the Trigger Unit; END also at the stream's port (R66, R67). -/
def advertEvents (st : StreamId) (wraps ends : Bool) (s : State) : State :=
  let s := if wraps then s.react (.loopWrap st) else s
  if ends then (s.react (.advertEnd st)).raise (FrameStore.portOf st) .advertEnd else s

/-- One stream at stage 2 of the commit of refresh `n` (R64 to R69). -/
def computeAdvert (n : Nat) (st : StreamId) (s : State) : State :=
  match s.adverts.get st with
  | none => s
  | some t =>
    let c := t.number n s.wall.rate
    let t' := t.advance n s.wall.rate
    let s := s.modAdverts fun a => a.set st (some t')
    let s := s.advertEvents st (t.wraps c) (t.ends c)
    let values : CommitValues :=
      { refresh := n, number := c, target := t.target n s.wall.rate, loops := t'.loops,
        starves := (s.stream st).counts.starve }
    let s := (s.modTriggers fun u => { u with values := u.values.set st (some values) }).react (.values st)
    if s.wall.state = .dark then s
    else s.handOn st (.pick n t.gen values.target (s.tilesShowing st))

/-! ### Stage 3 and the entry (R101, R106, R108) -/

/-- The tile record of a LIVE position at the commit of an entry (R101). -/
def commitRecord (s : State) (dark : Bool) (j : TileId) : TileRecord :=
  let e := s.layouts.map.get j
  let buffer :=
    match e.source with
    | .black => RecordBuffer.black
    | .stream st => if dark || (s.adverts.get st).isNone then .black else .awaiting
  { pos := j, source := e.source, x := e.x, y := e.y, buffer := buffer,
    level := if dark then 0 else Plan.driveLevel s.plan.level (s.plan.trims.get j), disposition := .opened }

/-- The plan entry of refresh `n`, with one record for each LIVE tile (R95, R101), in position order (DESIGN CHOICE: log
69). -/
def commitEntry (n : Nat) (s : State) : PlanEntry :=
  let dark := s.wall.state == .dark
  let waits := if dark then [] else (List.finRange 8).filter fun st => (s.adverts.get st).isSome
  { refresh := n, complete := waits.isEmpty, dark := dark, level := s.plan.level,
    records := ((List.finRange 24).filter s.live).map (s.commitRecord dark), unanswered := waits }

/-- The commit of refresh `n`, stages 1 to 3, with the commit notice to the Trigger Unit and Line Block (R95, R136). The
streams of stage 2 are taken in number order (DESIGN CHOICE: R68 gives none, log 44). -/
def commit (n : Nat) (s : State) : State :=
  let s := s.modPlan fun p => { p with newest := some n }
  let s := s.applyDue n
  let s := forEach 8 (computeAdvert n) s
  let s := s.modPlan (Plan.stepRamp n)
  let e := s.commitEntry n
  let s := s.modPlan fun p => { p with entries := p.entries ++ [e] }
  let s := s.modLines (LineBlock.commitNotice n e.dark)
  (s.react .commit).serveAll

/-! ### The pick answered (R84, R102) -/

/-- The Frame Store Controller takes the pick at the front of stream `st`'s waiting list: the answer fills the entry's
records, the references it brings for records no longer OPEN are released at once, and what waited behind it is handed
on (R102). -/
def takePick (st : StreamId) (s : State) : State :=
  match s.plan.handoffs.get st with
  | .pick n gen target tiles :: rest =>
    let r := s.store.pick st gen target tiles
    let filled := s.plan.openFor n st
    let rel := match r.buffer with
      | .buffer b fill _ _ => List.replicate (tiles - filled) (b, fill)
      | _ => []
    let s := s.modStore fun _ => { r.store with releases := r.store.releases ++ rel }
    let s := if r.notice then s.raise (FrameStore.portOf st) .starve else s
    let s := s.modPlan fun p =>
      { p with entries := p.entries.map fun e =>
          if Plan.awaits n st e then Plan.fillEntry st r.buffer e else e }
    let s := (s.drainHandoffs st rest).serveAll
    s.modPlan (Plan.prune s.wall.newest)
  | _ => s

end State

end Sys2Proof.Machine
end

