-- ==== Sys2Proof/Machine/WallOps.lean ====
section
/-! DEFINITION. RUN, STOP, WIPE, testing and the boundaries, across the blocks (1.4 to 1.7, 2.7, 6.7). -/

namespace Sys2Proof.Machine

namespace State

/-! ### RUN (R9, R40, R105) -/

/-- The black entry primed for refresh `n`: one record for each LIVE tile whose depth is at most `n` (R105). -/
def primedEntry (s : State) (n : Nat) : PlanEntry :=
  { refresh := n, complete := true, dark := false, level := s.plan.level,
    records := ((List.finRange 24).filter fun j => s.live j && (s.tile j).depth.any fun d => decide (d ≤ n)).map fun j =>
      { pos := j, source := .black, x := 0, y := 0, buffer := .black, level := 0, disposition := .opened },
    unanswered := [] }

/-- The plan primed for refreshes 0 to H − 1, and K set to H − 1, or none when H is 0 (R105). -/
def primePlan (s : State) : State :=
  let h := s.wall.horizon
  let es := (List.range h).map s.primedEntry
  s.modPlan fun p => { p with entries := es, newest := if h = 0 then none else some (h - 1) }

/-- A cue's new N at RUN, moved to H when it is late and SLIP (R40). `late` cues that are STRICT are left for retiring. -/
def reEpochCue (e period h : Nat) (c : Cue) : Cue :=
  let n := dueOf e period c.time
  if n < h ∧ c.late = .slip then { c with due := some h, time := timeOf e period h } else { c with due := some n }

/-- The re-epoching of the cue list at RUN (R40). -/
def reEpoch (e : Nat) (s : State) : State :=
  let h := s.wall.horizon
  let s' := s.modCues fun q => { q with list := q.list.map (reEpochCue e s.period h) }
  let late := s'.cues.list.filter fun c => decide (c.late = .strict) && c.due.any fun n => decide (n < h)
  let s' := late.foldl (fun s c => s.retire c .late c.due) s'
  let s' := s'.modCues fun q => { q with list := sortCues true q.list }
  s'.recomputeAllPending

/-- RUN taken in STOPPED with epoch `e`: the wall is RUNNING, the plan is primed, the cues re-epoched, LIVE tiles planned
from refresh 0, and the change of state announced (R9, R105, R121, R136). -/
def startWall (e : Nat) (sender : Option PortId) (s : State) : State :=
  let s := s.modWall fun w => { w with epoch := some e, state := .running, newest := none }
  let s := s.primePlan
  let s := s.reEpoch e
  let s := s.modTiles fun ts => ts.map fun t => if t.state = .live then { t with first := some 0 } else t
  let s := s.modLines LineBlock.relight
  s.announceWall sender

/-- RUN as a request or a console command takes it: the refusal, or the wall started (R9). -/
def takeRun (sender : Option PortId) (s : State) : Except Code State :=
  let e := epochAt s.wall.clock s.period
  if s.wall.state ≠ .stopped then .error .state
  else if maxClock < e then .error .range
  else .ok (s.startWall e sender)

/-! ### STOP and WIPE (R14, R15, R111, R112) -/

/-- The plan emptied: one release for each OPEN record that names a buffer, outstanding picks withdrawn, the ramp
completed at its target, K none (R111). The changes of generation that waited behind the picks are handed on. -/
def clearPlan (s : State) : State :=
  let rel := s.plan.entries.flatMap (PlanEntry.owed fun _ => true)
  let s := s.modStore fun fs => { fs with releases := fs.releases ++ rel }
  let s := forEach 8 (fun st s =>
    s.drainHandoffs st ((s.plan.handoffs.get st).filter fun h => !h.isPick)) s
  s.modPlan fun p => { p.completeRamp with entries := [], newest := none }

/-- Every tile's pending dispatches are abandoned and its awaiting reports emptied (R123). -/
def abandonAll (s : State) : State := forEach 24 abandonDispatches s

/-- STOP taken in RUNNING or DARK (R14, R39, R72, R83, R111, R123, R155). -/
def stopWall (sender : Option PortId) (s : State) : State :=
  let s := s.modWall fun w => { w with epoch := none, state := .stopped, newest := none }
  let s := s.clearPlan
  let s := s.modAdverts fun _ => .fill 8 none
  let s := (s.modCues CueStore.stopCues).recomputeAllPending
  let s := s.abandonAll
  let s := s.modTiles fun ts => ts.map fun t => { t with first := none }
  let s := s.modStore FrameStore.stop
  let s := s.modTriggers fun u => { u with values := .fill 8 none }
  let s := s.modLines LineBlock.relight
  s.announceWall sender

/-- STOP as a request or a console command takes it (R14). -/
def takeStop (sender : Option PortId) (s : State) : Except Code State :=
  if s.wallRuns then .ok (s.stopWall sender) else .error .state

/-- The Trigger Unit at WIPE, its triggers disabled (R155). -/
def wipeTriggers (u : TriggerUnit) : TriggerUnit :=
  { u with
    triggers := u.triggers.map fun t =>
      { t with enabled := false, fires := 0, merged := 0, lastFire := none, markSaturated := false }
    timers := u.timers.map fun t => { t.halt with expiries := 0 }
    values := .fill 8 none
    error := .clear }

/-- WIPE taken in STOPPED, RUNNING or DARK (R15, R42, R57, R94, R112, R131, R155). The triggers are disabled before the
change of state is taken. -/
def wipeWall (s : State) : State :=
  let changes := s.wallRuns
  let s := s.modTriggers wipeTriggers
  let s := s.modWall fun w => { w with epoch := none, state := .stopped, newest := none }
  let s := s.clearPlan
  let s := s.modAdverts fun _ => .fill 8 none
  let s := (s.modCues CueStore.wipe).modLayouts LayoutStore.wipe
  let s := s.abandonAll
  let s := s.modTiles fun ts => ts.map fun t => { t with first := none, missRun := 0, totals := .zero }
  let s := s.modStore FrameStore.wipe
  let s := s.modLines LineBlock.relight
  if changes then s.announceWall none else s.raiseBoth .wall

/-- WIPE as a request takes it (R15). -/
def takeWipe (s : State) : Except Code State :=
  if s.wallRuns || s.wall.state == .stopped then .ok s.wipeWall else .error .state

/-! ### Testing (R16, R176) -/

/-- Entry to TESTING at epoch `e` (R16), with the console in mode TEST (R176). A console that start-up finds in mode
WAITING or WRAP stays in it, since a change of wall state does not end a wrap (R177), and enters TEST when the wait or
the wrap ends; its counts start there (DESIGN CHOICE: log 41). -/
def enterTesting (e : Nat) (s : State) : State :=
  let s := s.modWall fun w => { w with epoch := some e, state := .testing, newest := none }
  let s := if s.console.mode = .waiting ∨ s.console.mode = .wrap then s else s.enterTest
  s.announceWall none

/-- TEST as the console takes it in STOPPED (R16, R176). -/
def takeTest (s : State) : Except Code State :=
  let e := epochAt s.wall.clock s.period
  if s.wall.state ≠ .stopped then .error .state
  else if maxClock < e then .error .range
  else .ok (s.enterTesting e)

/-- The end of TESTING: the test dispatches are abandoned, no miss is counted, and the console prints the final line
(R16, R129, R176). -/
def leaveTesting (s : State) : State :=
  let s := s.modWall fun w => { w with epoch := none, state := .stopped, newest := none }
  let s := s.abandonAll
  let s := s.printPrompt [.tally s.console.errors s.console.passes]
  s.announceWall none

/-! ### Boundaries (R11, R16) -/

/-- The number of the next boundary. -/
def nextBoundary (s : State) : Nat := match s.wall.newest with | none => 0 | some m => m + 1

/-- The show clock has reached the next boundary (R11, R12). -/
def boundaryDue (s : State) : Bool :=
  match s.wall.epoch with
  | none => false
  | some e => decide (e + s.nextBoundary * s.period ≤ s.wall.clock)

/-- The Cut Engine at boundary `m`: entries at or below `m` are completed, and refresh m + H is committed (R95,
R102). -/
def cutBoundary (m : Nat) (s : State) : State :=
  ((s.modPlan (Plan.forceComplete m)).serveAll).commit (m + s.wall.horizon)

/-- The announcement of boundary `m`; the controllers in `early` act before the Cut Engine (R11; log 6, log 7). -/
def announceBoundary (early : BitVec 24) (m : Nat) (s : State) : State :=
  let s := s.modWall fun w => { w with newest := some m }
  let s := forEach 24 (fun j s => if early.getLsbD j then s.tileBoundary m j else s) s
  let s := s.cutBoundary m
  let s := forEach 24 (fun j s => if early.getLsbD j then s else s.tileBoundary m j) s
  let s := s.modPlan (Plan.prune (some m))
  let s := (s.modLines (LineBlock.boundary m)).react .boundary
  s.sendSync m false

/-- The console counts a test boundary (R176). -/
def countTestBoundary (s : State) : State :=
  s.modConsole fun c =>
    if c.mode ≠ .test then c
    else if c.inPass + 1 = 120 then
      { c with inPass := 0, passes := bump c.passes, printed := c.printed ++ [.tally c.errors (bump c.passes)] }
    else { c with inPass := c.inPass + 1 }

/-- The announcement of test boundary `m` (R16; log 6). -/
def announceTestBoundary (early : BitVec 24) (m : Nat) (s : State) : State :=
  let s := s.modWall fun w => { w with newest := some m }
  let s := forEach 24 (fun j s => if early.getLsbD j then s.tileTestBoundary m j else s) s
  let s := s.countTestBoundary
  let s := forEach 24 (fun j s => if early.getLsbD j then s else s.tileTestBoundary m j) s
  s.sendSync m true

/-- One show tick: the clock and every count of ticks move, then the CLOCK comparisons are evaluated (R1, R142). -/
def tick (s : State) : State :=
  let s := s.modWall fun w => { w with clock := min (w.clock + 1) maxClock }
  let s := s.modCues fun q => { q with hold := q.hold.map fun h => { h with lapse := h.lapse - 1 } }
  let s := s.modTiles fun ts => ts.map fun t => { t with training := t.training.map (· - 1) }
  let s := s.modLines fun b => { b with lines := b.lines.map Line.tick }
  let s := s.modTriggers fun u => { u with timers := u.timers.map Timer.tick }
  s.react .clock

end State

end Sys2Proof.Machine
end

