-- ==== Sys2Proof/Machine/Admission.lean ====
section
/-! DEFINITION. The admission arbiter, the checks of an admission and of a cancel, and the edit hold (2.3 to 2.6). -/

namespace Sys2Proof.Machine

/-! ### Checking a post (R26, check 3) -/

/-- The content rates of an advert (R19). -/
def contentRates : List Nat := [24, 25, 30, 48, 50, 60, 100, 120]

/-- A post that passes check 3: what is inserted, and the clamps that were made. -/
structure CheckedPost where
  kind : CueKind
  due : RawDue
  late : LatePolicy
  gate : Gate
  clampRamp : Bool
  clampGate : Bool
  deriving DecidableEq, Repr

/-- The parameters in their ranges, with R clamped to 1023 (R26). -/
def checkParams : RawParams → Option (CueKind × Bool)
  | .takeLayout l => (index? 16 l).map fun l => (.takeLayout l, false)
  | .startAdvert st gen rate length mode =>
    match index? 8 st, EndMode.ofCode mode with
    | some st, some m =>
      if contentRates.contains rate && decide (1 ≤ length) && decide (gen ≤ 255) && decide (length ≤ 16777215) then
        some (.startAdvert st gen rate length m, false)
      else none
    | _, _ => none
  | .setLevel target ramp =>
    if target ≤ 255 then some (.setLevel target (min ramp 1023), decide (1023 < ramp)) else none
  | .goDark => some (.goDark, false)
  | .wake => some (.wake, false)
  | .fireTriggers mask =>
    if 0 < mask ∧ mask < 256 then some (.fireTriggers (BitVec.ofNat 8 mask), false) else none

/-- A gate READY is allowed on the kind (R26: TAKE LAYOUT and START ADVERT). -/
def CueKind.gateable : CueKind → Bool
  | .takeLayout _ => true
  | .startAdvert _ _ _ _ _ => true
  | _ => false

/-- An on timeout that is absent, or one of its two names (R161). -/
def timeoutValid (t : RawTail) : Bool := t.onTimeout.all fun n => decide (n ≤ 1)

/-- The gate of a post: NONE; READY with patience and on timeout; or READY forced to NONE on a kind that takes none
(R26; log 19). -/
def checkGate (k : CueKind) (t : RawTail) : Option (Gate × Bool) :=
  if !timeoutValid t then none
  else
    match t.gate with
    | 0 => some (.none, false)
    | 1 =>
      if !k.gateable then some (.none, true)
      else
        match t.patience, t.onTimeout.bind OnTimeout.ofCode with
        | some p, some o => some (.ready p o, false)
        | _, _ => none
    | _ => none

/-- Check 3 of an admission (R26). -/
def checkPost (raw : RawPost) : Option CheckedPost :=
  match raw.params, raw.due, raw.tail with
  | some ps, some d, some t =>
    match checkParams ps, LatePolicy.ofCode t.late with
    | some (kind, clampRamp), some late =>
      (checkGate kind t).map fun (gate, clampGate) =>
        { kind := kind, due := d, late := late, gate := gate, clampRamp := clampRamp, clampGate := clampGate }
    | _, _ => none
  | _, _, _ => none

namespace State

/-- The port that holds the edit hold (R35). -/
def holder (s : State) : Option PortId := s.cues.hold.map (·.holder)

/-- The requester is excluded by the hold: the other port holds it, or the requester is the console (R26, check 2;
R37). -/
def heldAgainst (s : State) (o : Owner) : Option PortId :=
  match s.holder with
  | none => none
  | some h =>
    match o with
    | .port p => if p = h then none else some h
    | .console => some h
    | .trigger _ => none

/-- The wall takes no post: STARTING, HALTED or TESTING (R26, check 1). -/
def postsClosed (s : State) : Bool :=
  match s.wall.state with
  | .starting => true
  | .halted => true
  | .testing => true
  | _ => false

/-- The reference of a post means nothing: an undefined layout, or a stream that is not configured (R26, check 4). -/
def unknownReference (s : State) : CueKind → Bool
  | .takeLayout l => (s.layouts.table.get l).isEmpty
  | .startAdvert st _ _ _ _ => !(s.stream st).config.configured
  | _ => false

/-- The due of a post that has passed checks 1 to 5: T, N and whether it was slipped, or the refusal LATE with N and K
(R27). -/
def fixDue (s : State) (d : RawDue) (late : LatePolicy) : Except (Nat × Nat) (Nat × Option Nat × Bool) :=
  match s.wallRuns, s.wall.epoch with
  | true, some e =>
    match d with
    | .time t =>
      let n := dueOf e s.period t
      match s.plan.newest with
      | none => .ok (t, some n, false)
      | some k =>
        if n ≤ k then
          match late with
          | .strict => .error (n, k)
          | .slip => .ok (timeOf e s.period (k + 1), some (k + 1), true)
        else .ok (t, some n, false)
    | .next offset =>
      let n := match s.plan.newest with | none => offset | some k => k + 1 + offset
      .ok (timeOf e s.period n, some n, false)
  | _, _ =>
    match d with
    | .time t => .ok (t, none, false)
    | .next _ => .ok (0, none, false)

/-- The checks of an admission in order, and the insertion (R26 to R29). -/
def judgePost (o : Owner) (raw : RawPost) (s : State) : State × PostOutcome :=
  if s.postsClosed then (s, .state s.wall.state)
  else if s.wall.state == .stopped && (match raw.due with | some (.next _) => true | _ => false) then
    (s, .state s.wall.state)
  else
    match s.heldAgainst o with
    | some h => (s, .held h)
    | none =>
      match checkPost raw with
      | none => (s, .range)
      | some c =>
        if s.unknownReference c.kind then (s, .unknown)
        else if 64 ≤ s.cues.list.length then (s, .full)
        else
          match s.fixDue c.due c.late with
          | .error (n, k) => (s, .late n k)
          | .ok (t, n, slipped) =>
            let make := fun id seq : Nat =>
              ({ id := id, owner := o, kind := c.kind, time := t, due := n, late := c.late, gate := c.gate,
                 waiting := false, seq := seq } : Cue)
            let (q, cue) := s.cues.insert s.wallRuns make
            let s := { s with cues := q }
            let s := match cue.advert with
              | some (st, _) => s.recomputePending st
              | none => s
            (s, .inserted c.clampRamp c.clampGate slipped cue.id t n)

/-! ### Cancelling (R31) -/

/-- The checks of a cancel in order, and the retiring (R31). -/
def cancel (p : PortId) (id : Option Nat) (s : State) : State × Answer :=
  if s.postsClosed then (s, .bare .state)
  else if s.holder == some p.other then (s, .bare .held)
  else
    match id with
    | none => (s, .bare .range)
    | some 0 => (s, .bare .range)
    | some id =>
      match s.cues.find id with
      | some c =>
        if c.owner = .port p.other then (s, .bare .owner)
        else
          (s.retire c .cancelled (if s.wallRuns then s.plan.newest else none), .bare .done)
      | none =>
        match s.cues.history.find? fun e => e.id == id with
        | some e => (s, { code := .gone, body := Wire.u8 e.outcome.code ++ Wire.maybe Wire.refresh e.refresh })
        | none => (s, { code := .gone, body := Wire.u8 unknownOutcome ++ Wire.maybe Wire.refresh none })

end State

/-! ### The outcome of a post (R29) -/

namespace PostOutcome

/-- The outcome code of a post (R29, R160). -/
def code : PostOutcome → Code
  | .inserted r g _ _ _ _ => if r || g then .clamped else .done
  | .state _ => .state
  | .held _ => .held
  | .range => .range
  | .unknown => .unknown
  | .full => .full
  | .late _ _ => .late

/-- The body of a post's response (R29); the clamps made are one set byte (DESIGN CHOICE: log 16). -/
def body : PostOutcome → List Byte
  | .inserted r g slipped id t n =>
    Wire.u16 id ++ Wire.time t ++ Wire.maybe Wire.refresh n ++
    (if r || g then Wire.u8 ((if r then 1 else 0) + if g then 2 else 0) else []) ++ Wire.bit slipped
  | .state w => Wire.u8 w.code
  | .held p => Wire.u8 (portCode p)
  | .range => []
  | .unknown => []
  | .full => []
  | .late n k => Wire.refresh n ++ Wire.refresh k

end PostOutcome

/-! ### The arbiter (R23, R24) -/

namespace ArbGroups

/-- The group of a requester. -/
def get (g : ArbGroups) : Requester → ArbGroup
  | .port .a => g.portA
  | .port .b => g.portB
  | .console => g.console
  | .trigger => g.trigger

/-- The four requesters in the cold-reset order (R24). -/
def order : List Requester := [.port .a, .port .b, .console, .trigger]

/-- The high rotation in the cold-reset order: its requesters, then the LOW group (R24). -/
def highOrder (g : ArbGroups) : List HighMember :=
  (order.filter fun r => g.get r == .high).map .requester ++ [.lowGroup]

/-- The low rotation in the cold-reset order (R24). -/
def lowOrder (g : ArbGroups) : List Requester := order.filter fun r => g.get r == .low

end ArbGroups

/-- `x` moved to the end of a rotation. -/
def moveLast {α : Type} [DecidableEq α] (x : α) (xs : List α) : List α := xs.filter (· ≠ x) ++ [x]

/-- The groups set, with both rotations in their cold-reset order (R24, R25). -/
def Arbiter.setGroups (g : ArbGroups) (a : Arbiter) : Arbiter :=
  { a with groups := g, high := g.highOrder, low := g.lowOrder }

namespace State

/-- What a port's request in progress asks of the arbiter, while its claim waits (R159). -/
def portClaim (s : State) (p : PortId) : Option ClaimOp :=
  match (s.port p).inProgress with
  | none => none
  | some x =>
    if x.granted then none
    else
      match x.request.kind with
      | .postCue => some (.post (Wire.post x.request.body))
      | .cancelCue => some (.cancel ((Wire.num 2 x.request.body).map (·.1)))
      | _ => none

/-- The claim a requester presents (R23). -/
def claimOf (s : State) : Requester → Option (ClaimFrom × ClaimOp)
  | .port p => (s.portClaim p).map fun op => (.port p, op)
  | .console =>
    match s.arbiter.typedClaim with
    | some raw => some (.typed, .post raw)
    | none => s.arbiter.startupClaim.map fun raw => (.startup, .post raw)
  | .trigger => s.triggers.posts.head?.map fun q => (.trigger q.trigger, .post q.raw)

/-- The first requester of the low rotation with a claim waiting (R24, step 3). -/
def lowChoice (s : State) : Option Requester := s.arbiter.low.find? fun r => (s.claimOf r).isSome

/-- The first member of the high rotation with a claim waiting (R24, step 1). -/
def highChoice (s : State) : Option HighMember :=
  s.arbiter.high.find? fun m =>
    match m with
    | .requester r => (s.claimOf r).isSome
    | .lowGroup => s.lowChoice.isSome

/-- The requester to be granted, with the rotations moved on (R24). -/
def choose (s : State) : Option (Requester × Arbiter) :=
  match s.highChoice with
  | none => none
  | some (.requester r) => some (r, { s.arbiter with high := moveLast (.requester r) s.arbiter.high })
  | some .lowGroup =>
    s.lowChoice.map fun r =>
      (r, { s.arbiter with low := moveLast r s.arbiter.low, high := moveLast .lowGroup s.arbiter.high })

/-- The claim leaves its requester's waiting place when it is granted. -/
def takeClaim (c : ClaimFrom) (s : State) : State :=
  match c with
  | .port p => s.modPort p fun q => { q with inProgress := q.inProgress.map fun x => { x with granted := true } }
  | .typed => s.modArbiter fun a => { a with typedClaim := none }
  | .startup => s.modArbiter fun a => { a with startupClaim := none }
  | .trigger _ => s

/-- While no operation is in progress and a claim waits, the next claim is granted (R23, R24). -/
def arbitrate (s : State) : State :=
  match s.arbiter.granted with
  | some _ => s
  | none =>
    match s.choose with
    | none => s
    | some (r, a) =>
      match s.claimOf r with
      | none => s
      | some (c, op) =>
        ({ s with arbiter := { a with granted := some { claimant := c, op := op, answered := true } } }).takeClaim c

/-! ### The edit hold (R35 to R38) -/

/-- A request taken from the holder's queue restarts the lapse count (R36). -/
def renewHold (p : PortId) (s : State) : State :=
  s.modCues fun q =>
    { q with hold := q.hold.map fun h => if h.holder = p then { h with lapse := 120000 } else h }

/-- The hold taken by port `p`; HOLD is raised at the other port (R35). -/
def takeHold (p : PortId) (s : State) : State :=
  match s.cues.hold with
  | some _ => s
  | none => (s.modCues fun q => { q with hold := some { holder := p, lapse := 120000 } }).raise p.other .hold

/-- The hold ended when port `p` holds it (R38). -/
def dropHold (p : PortId) (s : State) : State :=
  s.modCues fun q => if q.hold.any fun h => h.holder == p then { q with hold := none } else q

end State

end Sys2Proof.Machine
end

