-- ==== Sys2Proof/Machine/Flags.lean ====
section
/-! DEFINITION. The outputs the part computes from its state: readiness (R78), notice lines (R165), driven levels (R133)
and status lines (R179, R187); and `settle`, which brings them up to date and lets the arbiter grant (R23) at the end of
every change. -/

namespace Sys2Proof.Machine

/-- The status code of a start-up phase (R179). -/
def StartPhase.code : StartPhase → Nat
  | .reset => 0 | .storeLoad => 1 | .maskShift => 2 | .storeCheck => 3 | .applying => 4 | .ended => 4

namespace State

/-- Stream `st` is ready: its port's link is up, it holds fewer buffers than its limit, and a FREE buffer exists
(R78). -/
def streamReady (s : State) (st : StreamId) : Bool :=
  s.linkUp (FrameStore.portOf st) && decide (s.store.load st < (s.stream st).config.limit) && s.store.lowestFree.isSome

/-- The notice line of port `p` (R165). -/
def noticeLine (s : State) (p : PortId) : Bool := s.linkUp p && ((s.port p).notices &&& (s.port p).mask != 0)

/-- What the part drives on line `l` (R133). -/
def lineDrive (s : State) (l : LineId) : Drive := (s.line l).drivenLevel s.triggers.error.flag s.lines.dark

/-- The pin of line `l` (R133). -/
def pinLevel (s : State) (l : LineId) : PinLevel := (s.line l).config.pin (s.lineDrive l)

/-- The code on the status lines: the phase until the start state is entered (R179), and the wall state from there on
(R187). -/
def statusCode (s : State) : Nat :=
  match s.wall.state with
  | .starting => s.startup.phase.code
  | .stopped => if s.startup.select = 5 then 0xC else 8
  | .running => 9
  | .dark => 0xA
  | .testing => 0xB
  | .halted => 0xE

/-- The readiness of all eight streams (R78). -/
def readiness (s : State) : Table 8 Bool := .ofFn s.streamReady

/-- Every output as the state now gives it. -/
def outputs (s : State) : Pins :=
  { ready := s.readiness, notice := { a := s.noticeLine .a, b := s.noticeLine .b }, driven := .ofFn s.lineDrive,
    level := .ofFn s.pinLevel,
    status := s.statusCode }

/-- The readiness of one of port `p`'s streams differs from what the port was last told (R78). -/
def readinessMoved (s : State) (p : PortId) : Bool :=
  (List.finRange 8).any fun st => FrameStore.portOf st == p && (s.streamReady st != s.pins.ready.get st)

/-- A readiness message is made at port `p`, while its link is up, when the readiness of one of its streams changed
(R170). -/
def tellReadiness (p : PortId) (s : State) : State :=
  if s.linkUp p && s.readinessMoved p then s.modPort p Port.dueReadiness else s

/-- The outputs brought up to date and the changes of readiness handed to the ports (R78, R133, R165, R187). -/
def settlePins (s : State) : State :=
  let s' := (s.tellReadiness .a).tellReadiness .b
  s'.modPins fun _ => s'.outputs

/-- The end of a change: the arbiter grants a waiting claim when it is free (R23), and the outputs are brought up to
date. -/
def settle (s : State) : State := s.arbitrate.settlePins

end State

/-- The next state of an event that makes the change `f`. While RESET is held no event acts (R179; log 3). -/
def change (f : State → State) (s : State) : Host.Outcome State Fault Refusal :=
  .next (if s.resetHeld then s else (f s).settle)

end Sys2Proof.Machine
end

