-- ==== Sys2Proof/Machine/StoreOps.lean ====
section
/-! DEFINITION. The wall description store: the fields of each group, their ranges and defaults, staging, programming and
loading (11.2). -/

namespace Sys2Proof.Machine

/-! ### The fields of the groups (R183) -/

/-- What a field of a store group can hold. -/
inductive FieldKind where
  /-- a number of `bytes` bytes within `lo..hi` -/
  | num (bytes lo hi : Nat)
  /-- one byte, one of a set of numbers -/
  | oneOf (values : List Nat)
  /-- a present flag and a depth 0..7 -/
  | override
  /-- up to 16 characters, printable or 0 -/
  | name
  /-- the panes of layout 0 -/
  | panes
  deriving DecidableEq, Repr

namespace FieldKind

/-- A value lies within the field's range (R183). In the wall name a 0 is in range at any place (DESIGN CHOICE: log 55). -/
def inRange (k : FieldKind) (v : FieldVal) : Bool :=
  match k, v with
  | .num _ lo hi, .num n => decide (lo ≤ n) && decide (n ≤ hi)
  | .oneOf values, .num n => values.contains n
  | .override, .override present depth => decide (present ≤ 1) && decide (depth ≤ 7)
  | .name, .name chars =>
    decide (chars.length ≤ 16) && chars.all fun c => c == 0 || (decide (0x20 ≤ c) && decide (c ≤ 0x7E))
  | .panes, .panes ps => (checkPanes ps).isSome
  | _, _ => false

/-- The field written as 0 (R185). -/
def zero : FieldKind → FieldVal
  | .num _ _ _ => .num 0
  | .oneOf _ => .num 0
  | .override => .override 0 0
  | .name => .name []
  | .panes => .panes []

/-- A field read from a request body (log 34). -/
def read (k : FieldKind) (bs : List Byte) : Option (FieldVal × List Byte) :=
  match k with
  | .num bytes _ _ => (Wire.num bytes bs).map fun (n, rest) => (.num n, rest)
  | .oneOf _ => (Wire.num 1 bs).map fun (n, rest) => (.num n, rest)
  | .override =>
    match Wire.num 1 bs with
    | none => none
    | some (p, rest) => (Wire.num 1 rest).map fun (d, rest) => (.override p d, rest)
  | .name => (Wire.list (Wire.num 1) bs).map fun (cs, rest) => (.name cs, rest)
  | .panes => (Wire.list Wire.pane bs).map fun (ps, rest) => (.panes ps, rest)

/-- The bytes of a field in a response (log 34). -/
def write (k : FieldKind) (v : FieldVal) : List Byte :=
  match v with
  | .num n =>
    match k with
    | .num bytes _ _ => Wire.le bytes n
    | _ => Wire.u8 n
  | .override present depth => Wire.u8 present ++ Wire.u8 depth
  | .name chars => Wire.many Wire.u8 chars
  | .panes ps => Wire.many (fun p => Wire.paneFields p.toPane) ps

end FieldKind

/-- The six settings of a line in G5. -/
def lineKinds : List FieldKind := [.num 1 0 2, .num 1 0 1, .num 1 0 2, .num 2 0 65535, .num 1 0 2, .num 1 0 2]

/-- The settings of a stream in G9. -/
def streamKinds : List FieldKind := [.num 2 0 8192, .num 2 0 8192, .num 1 2 16, .num 1 0 1, .num 1 0 1]

/-- The four wall rates (R4). -/
def wallRates : List Nat := [50, 60, 100, 120]

/-- The fields of a group, in the order of R183. -/
def groupKinds (g : GroupId) : List FieldKind :=
  match g.val with
  | 0 => [.name, .num 2 0 65535]
  | 1 => [.num 1 1 8, .num 1 1 6, .num 2 1 8192, .num 2 1 8192, .num 1 0 255, .num 1 0 255]
  | 2 => [.oneOf wallRates, .num 1 0 6]
  | 3 => List.replicate 24 .override
  | 4 => List.replicate 24 (.num 1 0 255)
  | 5 => (List.replicate 12 lineKinds).flatten ++ [.num 1 0 7]
  | 6 => [.num 1 0 255, .panes]
  | 7 => List.replicate 4 (.num 1 0 1)
  | 8 => [.num 1 0 4]
  | _ => (List.replicate 8 streamKinds).flatten

/-- The defaults of a group (R24, R43, R57, R75, R108, R113, R131, R155, R183). -/
def groupDefaults (g : GroupId) : List FieldVal :=
  match g.val with
  | 0 => [.name [], .num 0]
  | 1 => [.num 6, .num 4, .num 1920, .num 1080, .num 0, .num 0]
  | 2 => [.num 60, .num 2]
  | 3 => List.replicate 24 (.override 0 0)
  | 4 => List.replicate 24 (.num 255)
  | 5 => (List.replicate 12 [.num 0, .num 0, .num 1, .num 600, .num 0, .num 2]).flatten ++ [.num 4]
  | 6 => [.num 255, .panes []]
  | 7 => [.num 0, .num 0, .num 1, .num 1]
  | 8 => [.num 0]
  | _ => (List.replicate 8 [.num 0, .num 0, .num 6, .num 1, .num 0]).flatten

/-- The number of field `i` of a group's values. -/
def numAt (vs : List FieldVal) (i : Nat) : Nat :=
  match vs[i]? with
  | some (.num n) => n
  | _ => 0

/-- Every field of a group lies within its range; for G1 columns × rows is at most 24 (R43, R183). -/
def groupInRange (g : GroupId) (vs : List FieldVal) : Bool :=
  vs.length == (groupKinds g).length && ((groupKinds g).zip vs).all (fun (k, v) => k.inRange v) &&
  (g != 1 || decide (numAt vs 0 * numAt vs 1 ≤ 24))

namespace StoreGroup

/-- The group judged by the store load phase (R183); `fromStore` is clear under select code 4. -/
def judge (fromStore : Bool) (g : GroupId) (x : StoreGroup) : StoreGroup :=
  { x with usable :=
      if fromStore && x.programmed then (if groupInRange g x.contents then .usable else .unusable) else .notLoaded }

/-- The values the store load phase takes from the group (R183). -/
def loaded (g : GroupId) (x : StoreGroup) : List FieldVal :=
  if x.usable = .usable then x.contents else groupDefaults g

/-- The stored contents, or the defaults while not programmed (R183, R186). -/
def shown (g : GroupId) (x : StoreGroup) : List FieldVal := if x.programmed then x.contents else groupDefaults g

/-- A field carried by STAGE STORE is written as staged with its value (R184). -/
def stage (fields : List (Option FieldVal)) (x : StoreGroup) : StoreGroup :=
  { x with staging := List.zipWith (fun new old => Option.or new old) fields x.staging }

/-- The contents a programming writes: staged values, and 0 for a field never staged (R185). -/
def programmedContents (g : GroupId) (x : StoreGroup) : List FieldVal :=
  (List.zipWith (fun k v => v.getD (FieldKind.zero k)) (groupKinds g) x.staging)

/-- The group when its programming ends (R185). -/
def programEnd (g : GroupId) (x : StoreGroup) : StoreGroup :=
  { x with programmed := true, contents := x.programmedContents g, staging := x.staging.map fun _ => none }

/-- The group at cold reset: programmed flag and contents stay, staging is empty (R184), and it is judged afresh. -/
def coldReset (x : StoreGroup) : StoreGroup :=
  { x with usable := .notLoaded, staging := x.staging.map fun _ => none }

end StoreGroup

/-! ### Bodies (R184 to R186) -/

/-- The optional fields of a group carried by STAGE STORE, in order. -/
def readFields : List FieldKind → List Byte → Option (List (Option FieldVal))
  | [], _ => some []
  | k :: ks, bs =>
    match Wire.opt (FieldKind.read k) bs with
    | none => none
    | some (v, rest) => (readFields ks rest).map (v :: ·)

/-- Each field carried is within its own range (R184, check 2). -/
def fieldsInRange (ks : List FieldKind) (vs : List (Option FieldVal)) : Bool :=
  (ks.zip vs).all fun (k, v) => v.all (FieldKind.inRange k)

/-- The bytes of a group's values. -/
def writeFields (ks : List FieldKind) (vs : List FieldVal) : List Byte := (ks.zip vs).flatMap fun (k, v) => k.write v

/-- The bytes of a group's staging image. -/
def writeStaging (ks : List FieldKind) (vs : List (Option FieldVal)) : List Byte :=
  (ks.zip vs).flatMap fun (k, v) => Wire.maybe k.write v

/-! ### The active configuration (R183) -/

namespace Loaded

/-- The wall geometry of G1's values (R43). -/
def geometry (vs : List FieldVal) : Geometry :=
  { cols := numAt vs 0, rows := numAt vs 1, tileW := numAt vs 2, tileH := numAt vs 3, gapH := numAt vs 4,
    gapV := numAt vs 5 }

/-- The depth override of position `j` in G3's values (R131). -/
def override (vs : List FieldVal) (j : TileId) : Option Nat :=
  match vs[j.val]? with
  | some (.override p d) => if p = 0 then none else some d
  | _ => none

/-- The settings of line `l` in G5's values (R155). -/
def line (vs : List FieldVal) (l : LineId) : LineConfig :=
  let at_ := fun i => numAt vs (6 * l.val + i)
  (RawLine.check { mode := at_ 0, polarity := at_ 1, pull := at_ 2, debounce := at_ 3, dark := at_ 4,
                   commanded := at_ 5 }).getD .default

/-- The common pulse width of G5's values (R183: an index to the eight widths). -/
def pulseWidth (vs : List FieldVal) : Nat := pulseWidths.getD (numAt vs 72) 600

/-- Layout 0 of G6's values (R57). -/
def layout0 (vs : List FieldVal) : List Pane :=
  match vs[(1 : Nat)]? with
  | some (.panes ps) => ps.map RawPane.toPane
  | _ => []

/-- The arbiter groups of G7's values (R24). -/
def groups (vs : List FieldVal) : ArbGroups :=
  let at_ := fun i => if numAt vs i = 0 then ArbGroup.high else .low
  { portA := at_ 0, portB := at_ 1, console := at_ 2, trigger := at_ 3 }

/-- The configuration of stream `st` in G9's values, its limit raised to H + 2 (R75). -/
def stream (horizon : Nat) (vs : List FieldVal) (st : StreamId) : StreamConfig :=
  let at_ := fun i => numAt vs (5 * st.val + i)
  { width := at_ 0, height := at_ 1, limit := max (at_ 2) (horizon + 2), flushOpen := at_ 3 == 1,
    flushClose := at_ 4 == 1 }

end Loaded

namespace State

/-- The store group `g`. -/
def group (s : State) (g : GroupId) : StoreGroup := s.startup.groups.get g

/-- The values loaded from group `g`. -/
def loadedFrom (s : State) (g : GroupId) : List FieldVal := (s.group g).loaded g

/-- Each block takes its items from the active configuration at the end of the store load phase (R4, R24, R43, R57, R75,
R108, R113, R131, R155). Both rotations take the cold-reset order, whatever was granted before (DESIGN CHOICE: log 61). -/
def takeConfiguration (s : State) : State :=
  let horizon := numAt (s.loadedFrom 2) 1
  let s := s.modWall fun w => { w with rate := numAt (s.loadedFrom 2) 0, horizon := horizon }
  let s := s.modLayouts fun b =>
    { b with geometry := Loaded.geometry (s.loadedFrom 1), table := b.table.set 0 (Loaded.layout0 (s.loadedFrom 6)) }
  let s := s.modTiles fun ts => .ofFn fun j => { ts.get j with override := Loaded.override (s.loadedFrom 3) j }
  let s := s.modPlan fun p =>
    { p with trims := .ofFn fun j => numAt (s.loadedFrom 4) j.val, level := numAt (s.loadedFrom 6) 0 }
  let s := s.modLines fun b =>
    { b with
      lines := .ofFn fun l => (b.lines.get l).load (Loaded.line (s.loadedFrom 5) l)
      pulseWidth := Loaded.pulseWidth (s.loadedFrom 5) }
  let s := s.modArbiter (Arbiter.setGroups (Loaded.groups (s.loadedFrom 7)))
  s.modStore fun fs =>
    { fs with streams := .ofFn fun st =>
        { fs.streams.get st with config := Loaded.stream horizon (s.loadedFrom 9) st } }

/-- The console rate code of the active configuration (R179). -/
def activeRateCode (s : State) : Nat := numAt (s.loadedFrom 8) 0

/-- The active configuration as the blocks hold it (R174, R183): of G6 the present wall level (DESIGN CHOICE: log 75), and
of G8 the rate code the console runs at (DESIGN CHOICE: log 76). -/
def activeConfig (s : State) : ActiveConfig :=
  { geometry := s.layouts.geometry, rate := s.wall.rate, horizon := s.wall.horizon,
    overrides := s.tiles.map (·.override), trims := s.plan.trims, lines := s.lines.lines.map (·.config),
    pulseWidth := s.lines.pulseWidth, level := s.plan.level, layout0 := s.layouts.table.get 0,
    groups := s.arbiter.groups, rateCode := s.console.rateCode, streams := s.store.streams.map (·.config) }

end State

end Sys2Proof.Machine
end

