-- ==== Sys2Proof/Machine/Reports.lean ====
section
/-! DEFINITION. The bodies of the responses that report state, each taken at one instant, their fields in the order the
owning rules list them (R169; log 15). -/

namespace Sys2Proof.Machine

open Wire

/-! ### Codes of the names that only responses carry -/

/-- In the order of chapter 9's state table (DESIGN CHOICE: log 53). -/
def DownCause.code : DownCause → Nat
  | .lost => 0 | .closed => 1 | .protocol => 2
def PickOutcome.code : PickOutcome → Nat
  | .fresh => 0 | .again => 1 | .black => 2
def RetireCause.code : RetireCause → Nat
  | .check => 0 | .integrity => 1
def Disposition.code : Disposition → Nat
  | .opened => 0 | .taken => 1 | .abandoned => 2
def TileState.code : TileState → Nat
  | .off => 0 | .down => 1 | .training => 2 | .live => 3 | .faulted => 4
def FaultReason.code : FaultReason → Nat
  | .depth => 0 | .misses => 1 | .silent => 2
def Usable.code : Usable → Nat
  | .usable => 0 | .unusable => 1 | .notLoaded => 2

namespace State

/-! ### Chapter 1 -/

/-- READ CLOCK (R3). -/
def clockReport (s : State) : List Byte :=
  time s.wall.clock ++ bit (s.wall.clock == maxClock) ++ u8 s.wall.state.code ++ u8 s.wall.rate ++ u16 s.period ++
  u8 s.wall.horizon ++ maybe time s.wall.epoch ++ maybe refresh s.wall.newest ++ maybe refresh s.plan.newest

/-! ### Chapter 2 -/

/-- LIST CUES, with the history when it is asked for (R34). -/
def cueReport (history? : Bool) (s : State) : List Byte :=
  many cue s.cues.list ++ (if history? then many history s.cues.history else []) ++ maybe refresh s.plan.newest ++
  maybe (fun p => u8 (portCode p)) s.holder

/-- CUE STATUS (R33; log 17). -/
def cueStatusReport (id : Nat) (s : State) : List Byte :=
  match s.cues.list.findIdx? fun c => c.id == id with
  | some i => [0x01] ++ (s.cues.list.drop i).head?.elim [] cue ++ u8 (i + 1)
  | none =>
    match s.cues.history.find? fun e => e.id == id with
    | some e => [0x00, 0x01] ++ history e
    | none => [0x00, 0x00] ++ u8 unknownOutcome

/-! ### Chapter 3 -/

/-- A pane with the number of existing positions it spans (R48, R49). -/
def paneReport (s : State) (p : Pane) : List Byte := paneFields p ++ u8 (s.layouts.geometry.spanned p).length

/-- READ LAYOUT with a number (R49). -/
def layoutReport (l : LayoutId) (s : State) : List Byte := many s.paneReport (s.layouts.table.get l)

/-- READ LAYOUT with no number: the number of panes of each layout (R49). -/
def layoutCounts (s : State) : List Byte := s.layouts.table.rows.flatMap fun ps => u8 ps.length

/-- DEFINE LAYOUT's response (R48). The number of panes is field and list count together (DESIGN CHOICE: log 15). -/
def layoutDefined (l : LayoutId) (s : State) : List Byte :=
  let ps := s.layouts.table.get l
  u8 l.val ++ u8 ps.length ++ ps.flatMap (fun p => u8 (s.layouts.geometry.spanned p).length) ++
  u8 (s.cues.list.filter fun c => c.takes == some l).length

/-- READ MAP (R53). -/
def mapReport (s : State) : List Byte :=
  let g := s.layouts.geometry
  u8 g.cols ++ u8 g.rows ++ u16 g.tileW ++ u16 g.tileH ++ u8 g.gapH ++ u8 g.gapV ++
  maybe (fun t : LayoutId × Nat => u8 t.1.val ++ refresh t.2) s.layouts.lastTake ++ maybe refresh s.plan.newest ++
  g.positions.flatMap fun j =>
    let e := s.layouts.map.get j
    u8 e.source.code ++ u16 e.x ++ u16 e.y ++ bit e.clamped

/-! ### Chapter 4 -/

/-- The fields of a timeline, in the order of R58; the pending generation `gen` is the last of them. -/
def timelineReport (gen : Option Nat) (t : Timeline) : List Byte :=
  u8 t.gen ++ refresh t.start ++ u8 t.rate ++ le 3 t.length ++ u8 t.mode.code ++ u16 t.cueId ++
  refresh (t.latestRefresh.getD 0) ++ u32 (t.latestNumber.getD 0) ++ u32 (t.latestTarget.getD 0) ++ u32 t.loops ++
  bit t.ended ++ maybe u8 gen

/-- READ ADVERT of one stream (R71; log 18). -/
def advertReport (s : State) (st : StreamId) : List Byte :=
  let gen := s.cues.pendingGen.get st
  maybe u8 gen ++ maybe (timelineReport gen) (s.adverts.get st)

/-- READ ADVERT (R71). -/
def advertsReport (st : Option StreamId) (s : State) : List Byte :=
  maybe refresh s.plan.newest ++
  (match st with
   | some st => s.advertReport st
   | none => (List.finRange 8).flatMap s.advertReport)

/-! ### Chapter 5 -/

/-- The settings of a stream, which are the resulting configuration of R75 (DESIGN CHOICE: log 68). -/
def streamSettings (c : StreamConfig) : List Byte :=
  u16 c.width ++ u16 c.height ++ u8 c.limit ++ bit c.flushOpen ++ bit c.flushClose

/-- The generation and number of the frame buffer `b` holds. -/
def frameName (s : State) (b : BufId) : List Byte :=
  u8 (((s.buffer b).frame.map (·.gen)).getD 0) ++ u32 (s.store.number b)

/-- READ STREAM (R92). The numbers of FREE and RETIRED buffers are two counts (DESIGN CHOICE: log 67). -/
def streamReport (st : StreamId) (s : State) : List Byte :=
  let x := s.stream st
  let c := x.counts
  streamSettings x.config ++ bit x.config.configured ++ bit (s.streamReady st) ++
  maybe u8 x.currentGen ++ maybe (le 3) x.currentLength ++ maybe (fun m => u8 (EndMode.code m)) x.currentMode ++
  maybe u8 x.pendingGen ++ maybe u32 x.floor ++ maybe (fun o => u8 (PickOutcome.code o)) x.lastOutcome ++
  bit x.starving ++
  maybe (fun b : BufId => u8 b.val ++ s.frameName b ++ u8 (s.buffer b).refs) x.lastPicked ++
  many (fun q : BufId × Nat => u8 q.1.val ++ u8 q.2 ++ s.frameName q.1)
    (x.current.map (·, 0) ++ x.pending.map (·, 1)) ++
  many (fun b : BufId => u8 b.val ++ s.frameName b ++ u8 (s.buffer b).refs ++ bit (s.buffer b).bad)
    (s.store.heldOf st) ++
  u16 c.accepted ++ u16 c.late ++ u16 c.stale ++ u16 c.crossed ++ u16 c.passed ++ u16 c.flushed ++ u16 c.starve ++
  u8 (s.store.inState .free).length ++ u8 (s.store.inState .retired).length

/-- READ INTEGRITY (R89). -/
def integrityReport (s : State) : List Byte :=
  let fs := s.store
  maybe (fun c : Capture =>
    u8 c.buffer.val ++ u8 c.stream.val ++ u8 c.gen ++ u32 c.number ++ u8 c.tile.val ++ refresh c.refresh) fs.capture ++
  bit fs.overflow ++ u8 fs.failures ++
  many (fun b : BufId => u8 b.val ++ u8 (((fs.buf b).cause.map RetireCause.code).getD 0)) (fs.inState .retired) ++
  many (fun b : BufId => u8 b.val) ((fs.inState .held).filter fun b => (fs.buf b).bad) ++
  u8 (fs.inState .free).length

/-! ### Chapter 6 -/

/-- A tile record, the fields of R101's table in its order; the buffer field is absent while its pick is unanswered (log
15), and the generation and number of the answer are not among them (DESIGN CHOICE: log 47). -/
def recordReport (r : TileRecord) : List Byte :=
  u8 r.pos.val ++ u8 r.source.code ++ u16 r.x ++ u16 r.y ++
  (match r.buffer with
   | .awaiting => [0x00]
   | .buffer b fill _ _ => [0x01] ++ u8 0 ++ u8 b.val ++ u32 fill
   | .black => [0x01] ++ u8 1) ++
  u8 r.level ++ u8 r.disposition.code

/-- The code of a committed state, which R106 lists as RUNNING, DARK (R169; log 48). -/
def committedCode (dark : Bool) : Nat := if dark then 1 else 0

/-- The committed state of the run; absent outside a run, since it ends with the run (R111, R113; log 48). -/
def committedState (s : State) : Option Bool := if s.wallRuns then some (s.wall.state == .dark) else none

/-- A plan entry, its records in the order it holds them (R110; log 69). -/
def entryReport (e : PlanEntry) : List Byte :=
  refresh e.refresh ++ bit e.complete ++ u8 (committedCode e.dark) ++ u8 e.level ++ many recordReport e.records

/-- READ PLAN (R110); `n` is the refresh carried. The numbers of the first and last entries are two optional fields (DESIGN
CHOICE: log 73). -/
def planReport (n : Option Nat) (s : State) : List Byte :=
  let p := s.plan
  maybe refresh p.newest ++ maybe (fun dark => u8 (committedCode dark)) s.committedState ++ u8 p.level ++
  maybe (fun r : Ramp => refresh r.start ++ u8 r.fromLevel ++ u8 r.target ++ u16 r.length) p.ramp ++
  p.trims.rows.flatMap u8 ++ maybe refresh (p.entries.head?.map (·.refresh)) ++
  maybe refresh (p.entries.getLast?.map (·.refresh)) ++
  (match n with
   | none => many entryReport p.entries
   | some n => maybe entryReport (p.entries.find? fun e => e.refresh == n))

/-! ### Chapter 7 -/

/-- What a dispatch carries: a buffer and fill number, BLACK, a marker, or a test picture; absent while AWAITING ENTRY
(R128; log 15). -/
def payloadReport : Payload → List Byte
  | .record r =>
    match r.buffer with
    | .buffer b fill _ _ => u8 0 ++ u8 b.val ++ u32 fill
    | _ => u8 1
  | .marker => u8 2
  | .test => u8 3

/-- The code of a dispatch's phase (R122). -/
def phaseCode : Phase → Nat
  | .awaitingEntry => 0 | .queued _ => 1 | .sending _ _ => 2

/-- READ TILE of one position (R128). -/
def tileReport (s : State) (j : TileId) : List Byte :=
  let t := s.tile j
  let x := t.totals
  u8 t.state.code ++ maybe (fun r => u8 (FaultReason.code r)) t.reason ++ bit t.linkUp ++ bit t.wrapped ++
  maybe u8 t.helloDepth ++ maybe u8 t.override ++ maybe u8 t.depth ++ maybe u16 t.training ++ maybe refresh t.first ++
  many (fun d : Dispatch => refresh d.refresh ++ u8 (phaseCode d.phase) ++ maybe payloadReport d.phase.load)
    t.dispatches ++
  many refresh t.awaiting ++ u8 t.missRun ++
  u16 x.dispatched ++ u16 x.onTime ++ u16 x.misses ++ u16 x.ignored ++ u16 x.overrun ++ u16 x.integrityBlack ++
  u16 x.hello ++ u16 x.faults ++ u16 x.serviceDropped

/-! ### Chapter 8 -/

/-- A line record, its fields in the order of R132. A stopped debounce count is absent (DESIGN CHOICE: log 74). -/
def lineReport (s : State) (l : LineId) : List Byte :=
  let x := s.line l
  u8 x.config.mode.code ++ u8 x.config.polarity.code ++ u8 x.config.pull.code ++ u16 x.config.debounce ++
  u8 x.config.dark.code ++ u8 x.config.commanded.code ++ u8 (if x.rawHigh then 0 else 1) ++
  u8 (if x.settled then 0 else 1) ++ maybe u16 x.debounceCount ++ maybe u16 x.pulseCount ++ u8 (s.lineDrive l).code ++
  u16 x.rises ++ u16 x.falls ++ u16 x.pulses

/-- The code of LIT or DARK (DESIGN CHOICE: log 64). -/
def litCode (dark : Bool) : Nat := if dark then 1 else 0

/-- READ LINES (R138). -/
def linesReport (s : State) : List Byte :=
  u16 s.lines.pulseWidth ++ u8 (litCode s.lines.dark) ++
  many (fun c : Nat × Bool => refresh c.1 ++ u8 (litCode c.2)) s.lines.schedule ++
  (List.finRange 12).flatMap s.lineReport

/-- The code of a timer's starter: a port, or TRIGGER k (R139). -/
def starterCode : Starter → Nat
  | .port p => portCode p
  | .trigger k => 2 + k.val

/-- The code of a timer's state (R139). -/
def timerStateCode (t : Timer) : Nat := if t.running then 1 else 0

/-- A timer record, its fields in the order of R139; the count of a STOPPED timer is sent as 0 (DESIGN CHOICE: log 59). -/
def timerReport (t : Timer) : List Byte :=
  u8 (timerStateCode t) ++ u32 t.count ++ u32 t.start ++ bit t.rep ++ u16 t.expiries ++
  maybe (fun w => u8 (starterCode w)) t.starter

/-- A subject that may be ANY, coded after the numbered ones. -/
def subjectCode {n : Nat} (x : Option (Fin n)) : Nat := x.elim n (·.val)

/-- A condition with its subject (R142). -/
def conditionReport : Condition → List Byte
  | .none => u8 0
  | .clock => u8 1
  | .boundary => u8 2
  | .commit => u8 3
  | .frame st => u8 4 ++ u8 st.val
  | .loops st => u8 5 ++ u8 st.val
  | .starves st => u8 6 ++ u8 st.val
  | .line l e => u8 7 ++ u8 l.val ++ u8 (match e with | .rise => 0 | .fall => 1 | .either => 2)
  | .timer t => u8 8 ++ u8 t.val
  | .advertEnd st => u8 9 ++ u8 (subjectCode st)
  | .loopWrap st => u8 10 ++ u8 (subjectCode st)
  | .tileFault j => u8 11 ++ u8 (subjectCode j)
  | .wall w => u8 12 ++ u8 (match w with | .stopped => 0 | .running => 1 | .dark => 2 | .testing => 3)

/-- The parameters of a post with its kind. -/
def paramsReport : RawParams → List Byte
  | .takeLayout l => u8 0 ++ u8 l
  | .startAdvert st gen rate length mode => u8 1 ++ u8 st ++ u8 gen ++ u8 rate ++ le 3 length ++ u8 mode
  | .setLevel target ramp => u8 2 ++ u8 target ++ u16 ramp
  | .goDark => u8 3
  | .wake => u8 4
  | .fireTriggers mask => u8 5 ++ u8 mask

/-- The last fields of a post. -/
def tailReport (t : RawTail) : List Byte := u8 t.late ++ u8 t.gate ++ maybe u8 t.patience ++ maybe u8 t.onTimeout

/-- What an action does to one timer, an optional field since it may be none (R141, R169). -/
def timerActReport : TimerAct → List Byte
  | .none => [0x00]
  | .stop => [0x01] ++ u8 0
  | .start value rep => [0x01] ++ u8 1 ++ u32 value ++ bit rep

/-- The due of a trigger's post. -/
def triggerDueReport : TriggerDue → List Byte
  | .after d => u8 0 ++ u32 d
  | .next o => u8 1 ++ u8 o

/-- The parts of an action, in the order of R141. -/
def actionReport (a : Action) : List Byte :=
  maybe (fun m : MarksPart => u8 m.targets.toNat ++
    (match m.change with
     | .capture v => u8 0 ++ u32 v
     | .advance v => u8 1 ++ u32 v)) a.marks ++
  maybe (fun t : TimerAct × TimerAct => timerActReport t.1 ++ timerActReport t.2) a.timers ++
  maybe (fun l : LinesPart => u16 l.setMask.toNat ++ u16 l.clearMask.toNat ++ u16 l.pulseMask.toNat) a.lines ++
  maybe (fun p : PostPart => paramsReport p.params ++ triggerDueReport p.due ++ tailReport p.tail) a.post ++
  maybe (fun c : BitVec 8 => u8 c.toNat) a.chain

/-- A definition as stored, its fields in the order of R141 (R149). -/
def defReport (d : TriggerDef) : List Byte :=
  conditionReport d.condition ++ maybe (le ((markBytes d.condition).getD 0)) d.mark ++ u8 (if d.once then 0 else 1) ++
  actionReport d.action ++ u8 ((if d.notifyA then 1 else 0) + if d.notifyB then 2 else 0)

/-- The source of a last fire (R141). -/
def fireSourceReport : FireSource → List Byte
  | .condition => u8 0
  | .chain k => u8 1 ++ u8 k.val
  | .request p => u8 2 ++ u8 (portCode p)
  | .cue id => u8 3 ++ u16 id

/-- A trigger record, its fields in the order of R141 (R152). The last value of an edge condition is what an earlier
comparison left, false at reset (DESIGN CHOICE: log 52). The last post outcome is its outcome code and body (DESIGN CHOICE:
log 70). -/
def triggerReport (s : State) (k : TriggerId) : List Byte :=
  let t := s.trigger k
  defReport t.defn ++ bit t.enabled ++ bit t.last ++ u16 t.fires ++ u16 t.merged ++
  maybe (fun f : FireSource × Nat => fireSourceReport f.1 ++ time f.2) t.lastFire ++ bit t.postPending ++
  maybe (fun o : PostOutcome => [o.code.byte] ++ o.body) t.lastPost ++ bit t.markSaturated

/-- The due of a queued post. -/
def rawDueReport : RawDue → List Byte
  | .time t => u8 0 ++ time t
  | .next o => u8 1 ++ u8 o

/-- A post of the post queue with its trigger and the show time of its firing (R152). -/
def postReport (q : QueuedPost) : List Byte :=
  u8 q.trigger.val ++ time q.firedAt ++ q.raw.params.elim [] paramsReport ++ q.raw.due.elim [] rawDueReport ++
  q.raw.tail.elim [] tailReport

/-- The first cause of the wall error (R153). -/
def causeReport : ErrorCause → List Byte
  | .tileFault j r => u8 0 ++ u8 j.val ++ u8 (FaultReason.code r)
  | .integrity b => u8 1 ++ u8 b.val

/-- The wall error record (R153, R154). -/
def errorReport (e : WallError) : List Byte := bit e.flag ++ maybe causeReport e.cause ++ u16 e.count

/-- Commit values (R142, R152). -/
def valuesReport (v : CommitValues) : List Byte :=
  refresh v.refresh ++ u32 v.number ++ u32 v.target ++ u32 v.loops ++ u16 v.starves

/-- READ TRIGGER of the triggers `ks` (R152). -/
def triggersReport (ks : List TriggerId) (s : State) : List Byte :=
  let u := s.triggers
  ks.flatMap s.triggerReport ++ many postReport u.posts ++ u.timers.rows.flatMap timerReport ++
  u.values.rows.flatMap (maybe valuesReport) ++ errorReport u.error ++ bit u.disableOnError

/-- The enabled flags of all eight triggers (R150), as one set (DESIGN CHOICE: log 72). -/
def enabledSet (s : State) : Nat :=
  ((List.finRange 8).map fun k => if (s.trigger k).enabled then 2 ^ k.val else 0).sum

/-! ### Chapters 9 and 11 -/

/-- READ NOTICES (R166). -/
def noticesReport (p : PortId) (s : State) : List Byte :=
  let q := s.port p
  u8 q.notices.toNat ++ q.raises.rows.flatMap u8 ++ u8 q.mask.toNat ++ u16 q.stray ++
  maybe (fun c => u8 (DownCause.code c)) q.cause

/-- The staging image of a group (R184). -/
def stagingReport (g : GroupId) (s : State) : List Byte := writeStaging (groupKinds g) (s.group g).staging

/-- READ STORE of one group (R186). -/
def groupReport (s : State) (g : GroupId) : List Byte :=
  let x := s.group g
  bit x.programmed ++ u8 x.usable.code ++ writeFields (groupKinds g) (x.shown g) ++ s.stagingReport g

/-- READ STORE of the groups `gs` (R186). -/
def storeReport (gs : List GroupId) (s : State) : List Byte :=
  u8 s.startup.select.toNat ++ maybe (fun x : Programming => u8 x.group.val) s.startup.programming ++
  gs.flatMap s.groupReport

end State

end Sys2Proof.Machine
end

