-- ==== Sys2Proof/Machine/Requests.lean ====
section
/-! DEFINITION. What the owning block decides of each request that is answered when it is taken: its checks in the order
its rule gives them, its effect and its response. -/

namespace Sys2Proof.Machine

namespace State

/-- The wall states in which the read requests are taken: all but STARTING and HALTED, in which no request can come
(R162; log 22). -/
def isServing (s : State) : Bool :=
  match s.wall.state with
  | .starting => false
  | .halted => false
  | _ => true

/-- STOPPED, RUNNING or DARK: the wall states in which TESTING's refusals do not apply. -/
def isEditable (s : State) : Bool := s.isServing && s.wall.state != .testing

/-- A request refused with nothing to carry. -/
def refuse (c : Code) (s : State) : State × Answer := (s, .bare c)

/-- A request answered DONE. -/
def done (body : List Byte) (s : State) : State × Answer := (s, { code := .done, body := body })

/-! ### Chapter 1 -/

/-- READ CLOCK (R3). -/
def decideReadClock (s : State) : State × Answer := if s.isServing then s.done s.clockReport else s.refuse .state

/-- SET CLOCK (R2): the CLOCK comparisons see the new value (R142). -/
def decideSetClock (body : List Byte) (s : State) : State × Answer :=
  if s.wall.state ≠ .stopped then s.refuse .state
  else
    match Wire.num 6 body with
    | none => s.refuse .range
    | some (t, _) => ((s.modWall fun w => { w with clock := t }).react .clock).done (Wire.time t)

/-- A field that is absent or passes its test. -/
def fieldOk (ok : Nat → Bool) (x : Option Nat) : Bool := x.all ok

/-- The trim list of a CONFIGURE WALL: 1 to 24 pairs, positions 0..23, none named twice (R109). -/
def trimsOk (ts : List (Nat × Nat)) : Bool :=
  decide (1 ≤ ts.length) && decide (ts.length ≤ 24) && ts.all (fun t => decide (t.1 ≤ 23) && decide (t.2 ≤ 255)) &&
  decide (ts.map (·.1)).Nodup

/-- Checks 2 and 3 of CONFIGURE WALL (R5, R25, R44, R109). -/
def wallFieldsOk (f : WallFields) : Bool :=
  fieldOk wallRates.contains f.rate && fieldOk (fun h => decide (h ≤ 6)) f.horizon &&
  f.groups.all (fieldOk fun g => decide (g ≤ 1)) &&
  fieldOk (fun n => decide (1 ≤ n) && decide (n ≤ 8192)) f.tileW &&
  fieldOk (fun n => decide (1 ≤ n) && decide (n ≤ 8192)) f.tileH &&
  fieldOk (fun n => decide (n ≤ 255)) f.gapH && fieldOk (fun n => decide (n ≤ 255)) f.gapV && f.trims.all trimsOk

/-- The groups after a CONFIGURE WALL (R25): field `i` is PORT A, PORT B, CONSOLE, TRIGGER in turn. -/
def newGroups (f : WallFields) (g : ArbGroups) : ArbGroups :=
  let at_ := fun (i : Nat) (old : ArbGroup) => (((f.groups[i]?).join).bind ArbGroup.ofCode).getD old
  { portA := at_ 0 g.portA, portB := at_ 1 g.portB, console := at_ 2 g.console, trigger := at_ 3 g.trigger }

/-- The trims after a CONFIGURE WALL (R109). -/
def newTrims (ts : List (Nat × Nat)) (old : Table 24 Nat) : Table 24 Nat :=
  .ofFn fun j => ((ts.find? fun t => t.1 == j.val).map (·.2)).getD (old.get j)

/-- The fields of a CONFIGURE WALL written (R5, R25, R44, R109). -/
def writeWallFields (f : WallFields) (s : State) : State :=
  let s := s.modWall fun w => { w with rate := f.rate.getD w.rate, horizon := f.horizon.getD w.horizon }
  let s := if f.groups.any Option.isSome then s.modArbiter fun a => a.setGroups (newGroups f a.groups) else s
  let s := s.modLayouts fun b =>
    { b with geometry :=
        { b.geometry with tileW := f.tileW.getD b.geometry.tileW, tileH := f.tileH.getD b.geometry.tileH,
                          gapH := f.gapH.getD b.geometry.gapH, gapV := f.gapV.getD b.geometry.gapV } }
  s.modPlan fun p => { p with trims := newTrims (f.trims.getD []) p.trims }

/-- The streams whose limit lies below `least` (R5). -/
def limitsBelow (least : Nat) (s : State) : List StreamId :=
  (List.finRange 8).filter fun st => decide ((s.stream st).config.limit < least)

/-- Every LIVE tile whose depth exceeds the horizon is faulted DEPTH (R5); in position order (DESIGN CHOICE: log 43). -/
def faultDeepTiles (s : State) : State :=
  forEach 24 (fun j s =>
    if s.live j && (s.tile j).depth.any (fun d => decide (s.wall.horizon < d)) then s.faultTile j .depth else s) s

/-- CONFIGURE WALL (R5, R25, R44, R109; log 16 for the body of CLAMPED). -/
def decideConfigureWall (body : List Byte) (s : State) : State × Answer :=
  if s.wall.state ≠ .stopped then s.refuse .state
  else
    match Wire.wallFields body with
    | none => s.refuse .range
    | some f =>
      if !wallFieldsOk f then s.refuse .range
      else
        let h := f.horizon.getD s.wall.horizon
        let raised := if s.wall.horizon < h then s.limitsBelow (h + 2) else []
        let lowered := decide (h < s.wall.horizon)
        let s := s.writeWallFields f
        let s := s.modStore fun fs =>
          { fs with streams := .ofFn fun st =>
              if raised.contains st then FrameStore.raiseLimit (h + 2) (fs.streams.get st) else fs.streams.get st }
        let s := if lowered then s.faultDeepTiles else s
        if raised.isEmpty then s.done []
        else (s, { code := .clamped, body := Wire.u8 (raised.map fun st => 2 ^ st.val).sum })

/-- RUN (R9). -/
def decideRun (p : PortId) (s : State) : State × Answer :=
  match s.takeRun (some p) with
  | .error c => s.refuse c
  | .ok s' => s'.done (Wire.time (epochAt s.wall.clock s.period))

/-- STOP (R14). -/
def decideStop (p : PortId) (s : State) : State × Answer :=
  match s.takeStop (some p) with
  | .error c => s.refuse c
  | .ok s' => s'.done []

/-- WIPE (R15). -/
def decideWipe (s : State) : State × Answer :=
  match s.takeWipe with
  | .error c => s.refuse c
  | .ok s' => s'.done []

/-! ### Chapter 2 -/

/-- CUE STATUS (R33). An id of 0 is answered UNKNOWN (DESIGN CHOICE: log 62). -/
def decideCueStatus (body : List Byte) (s : State) : State × Answer :=
  if !s.isServing then s.refuse .state
  else
    match Wire.num 2 body with
    | none => s.refuse .range
    | some (id, _) => s.done (s.cueStatusReport id)

/-- The two flags of LIST CUES: history, then hold (log 15). -/
def listFlags (body : List Byte) : Option (Bool × Bool) :=
  match Wire.flag body with
  | none => none
  | some (history, rest) => (Wire.flag rest).map fun x => (history, x.1)

/-- LIST CUES (R34, R35). -/
def decideListCues (p : PortId) (body : List Byte) (s : State) : State × Answer :=
  if !s.isServing then s.refuse .state
  else
    match listFlags body with
    | none => s.refuse .range
    | some (history, false) => s.done (s.cueReport history)
    | some (history, true) =>
      if s.wall.state = .testing then s.refuse .state
      else if s.holder = some p.other then s.refuse .held
      else
        let s := s.takeHold p
        s.done (s.cueReport history)

/-- RELEASE HOLD (R38). -/
def decideReleaseHold (p : PortId) (s : State) : State × Answer :=
  if !s.isServing then s.refuse .state
  else if s.holder = some p then (s.dropHold p).done []
  else s.refuse .owner

/-! ### Chapter 3 -/

/-- DEFINE LAYOUT (R47, R48). -/
def decideDefineLayout (p : PortId) (body : List Byte) (s : State) : State × Answer :=
  if !s.isEditable then s.refuse .state
  else if s.holder = some p.other then s.refuse .held
  else
    match Wire.layoutFields body with
    | none => s.refuse .range
    | some (l, ps) =>
      match index? 16 l, checkPanes ps with
      | some l, some panes =>
        let s := s.modLayouts fun b => { b with table := b.table.set l panes }
        s.done (s.layoutDefined l)
      | _, _ => s.refuse .range

/-- An optional number below `n` (R49, R71, R128, R152, R186): absent, an index, or outside the range. -/
def optIndex (n : Nat) (x : Option Nat) : Option (Option (Fin n)) :=
  match x with
  | none => some none
  | some k => (index? n k).map some

/-- READ LAYOUT (R49). -/
def decideReadLayout (body : List Byte) (s : State) : State × Answer :=
  if !s.isServing then s.refuse .state
  else
    match (Wire.opt (Wire.num 1) body).bind fun x => optIndex 16 x.1 with
    | none => s.refuse .range
    | some none => s.done s.layoutCounts
    | some (some l) => s.done (s.layoutReport l)

/-- READ MAP (R53). -/
def decideReadMap (s : State) : State × Answer := if s.isServing then s.done s.mapReport else s.refuse .state

/-! ### Chapter 4 -/

/-- READ ADVERT (R71). -/
def decideReadAdvert (body : List Byte) (s : State) : State × Answer :=
  if !s.isServing then s.refuse .state
  else
    match (Wire.opt (Wire.num 1) body).bind fun x => optIndex 8 x.1 with
    | none => s.refuse .range
    | some st => s.done (s.advertsReport st)

/-! ### Chapter 5 -/

/-- The configuration a CONFIGURE STREAM gives, before the clamp of its limit. -/
def newStreamConfig (f : StreamFields) (c : StreamConfig) : StreamConfig :=
  { width := f.width.getD c.width, height := f.height.getD c.height, limit := f.limit.getD c.limit,
    flushOpen := f.flushOpen.getD c.flushOpen, flushClose := f.flushClose.getD c.flushClose }

/-- CONFIGURE STREAM (R75). -/
def decideConfigureStream (p : PortId) (body : List Byte) (s : State) : State × Answer :=
  if s.wall.state ≠ .stopped then s.refuse .state
  else
    match (Wire.num 1 body).bind fun x => (index? 8 x.1).map (·, x.2) with
    | none => s.refuse .range
    | some (st, rest) =>
      if FrameStore.portOf st ≠ p then s.refuse .owner
      else
        match Wire.streamFields rest with
        | none => s.refuse .range
        | some f =>
          if !(fieldOk (fun n => decide (n ≤ 8192)) f.width && fieldOk (fun n => decide (n ≤ 8192)) f.height &&
               fieldOk (fun n => decide (2 ≤ n) && decide (n ≤ 16)) f.limit) then s.refuse .range
          else
            let asked := newStreamConfig f (s.stream st).config
            let c := { asked with limit := max asked.limit (s.wall.horizon + 2) }
            if c.limit < (s.store.heldOf st).length then s.refuse .state
            else
              let s' := s.modStore (FrameStore.configure st c)
              (s', { code := if asked.limit < s.wall.horizon + 2 then .clamped else .done, body := streamSettings c })

/-- READ STREAM (R92). -/
def decideReadStream (p : PortId) (body : List Byte) (s : State) : State × Answer :=
  if !s.isServing then s.refuse .state
  else
    match (Wire.num 1 body).bind fun x => (index? 8 x.1).bind fun st => (Wire.flag x.2).map fun c => (st, c.1) with
    | none => s.refuse .range
    | some (st, clear) =>
      if clear && FrameStore.portOf st != p then s.refuse .owner
      else
        let s' := if clear then s.modStore (FrameStore.modStream st fun x => { x with counts := .zero }) else s
        s'.done (s.streamReport st)

/-- READ INTEGRITY (R89). -/
def decideReadIntegrity (body : List Byte) (s : State) : State × Answer :=
  if !s.isServing then s.refuse .state
  else
    match Wire.flag body with
    | none => s.refuse .range
    | some (clear, _) => (if clear then s.modStore FrameStore.clearIntegrity else s).done s.integrityReport

/-! ### Chapter 6 -/

/-- READ PLAN (R110). -/
def decideReadPlan (body : List Byte) (s : State) : State × Answer :=
  if !s.isServing then s.refuse .state
  else
    match Wire.opt (Wire.num 5) body with
    | none => s.refuse .range
    | some (n, _) => s.done (s.planReport n)

/-! ### Chapter 7 -/

/-- A FAULTED tile revived (R127). -/
def reviveTile (j : TileId) (s : State) : State :=
  let s := s.modTile j fun t => { t with reason := none, missRun := 0 }
  if (s.tile j).linkUp then s.enterTraining j
  else s.modTile j fun t => { t with state := .down, helloDepth := none, depth := none }

/-- REVIVE TILE (R127). -/
def decideReviveTile (body : List Byte) (s : State) : State × Answer :=
  if !s.isServing then s.refuse .state
  else
    match (Wire.num 1 body).bind fun x => index? 24 x.1 with
    | none => s.refuse .range
    | some j =>
      if (s.tile j).state ≠ .faulted then (s, { code := .state, body := Wire.u8 (s.tile j).state.code })
      else
        let s := s.reviveTile j
        s.done (Wire.u8 (s.tile j).state.code)

/-- The optional number below `n` and the clear flag of READ TILE and READ TRIGGER. -/
def indexAndClear (n : Nat) (body : List Byte) : Option (Option (Fin n) × Bool) :=
  match Wire.opt (Wire.num 1) body with
  | none => none
  | some (x, rest) => (optIndex n x).bind fun i => (Wire.flag rest).map fun c => (i, c.1)

/-- The one named, or every one in order. -/
def named {n : Nat} (x : Option (Fin n)) : List (Fin n) := x.elim (List.finRange n) ([·])

/-- READ TILE (R128). -/
def decideReadTile (body : List Byte) (s : State) : State × Answer :=
  if !s.isServing then s.refuse .state
  else
    match indexAndClear 24 body with
    | none => s.refuse .range
    | some (x, clear) =>
      let js := named x
      let s' := if clear then js.foldl (fun s j => s.modTile j fun t => { t with totals := .zero }) s else s
      s'.done (js.flatMap s.tileReport)

/-! ### Chapter 8 -/

/-- The settings of a line after a SET LINE, when every field is in its set (R137). -/
def newLineConfig (f : LineFields) (c : LineConfig) : Option LineConfig :=
  RawLine.check
    { mode := f.mode.getD c.mode.code, polarity := f.polarity.getD c.polarity.code, pull := f.pull.getD c.pull.code,
      debounce := f.debounce.getD c.debounce, dark := f.dark.getD c.dark.code,
      commanded := f.commanded.getD c.commanded.code }

/-- SET LINE carries a field of one line (R137). -/
def hasLineField (f : LineFields) : Bool :=
  f.mode.isSome || f.polarity.isSome || f.pull.isSome || f.debounce.isSome || f.dark.isSome || f.commanded.isSome

/-- SET LINE (R137). -/
def decideSetLine (body : List Byte) (s : State) : State × Answer :=
  if !s.isServing then s.refuse .state
  else
    match Wire.lineFields body with
    | none => s.refuse .range
    | some f =>
      if !fieldOk pulseWidths.contains f.width then s.refuse .range
      else
        let s' := s.modLines fun b => { b with pulseWidth := f.width.getD b.pulseWidth }
        match f.line with
        | none => if hasLineField f then s.refuse .range else s'.done []
        | some l =>
          match index? 12 l with
          | none => s.refuse .range
          | some l =>
            match newLineConfig f (s.line l).config with
            | none => s.refuse .range
            | some c =>
              let s' := s'.modLine l (Line.configure c)
              s'.done (s'.lineReport l)

/-- The totals of a line cleared (R138). -/
def clearLine (x : Line) : Line := { x with rises := 0, falls := 0, pulses := 0 }

/-- READ LINES (R138). -/
def decideReadLines (body : List Byte) (s : State) : State × Answer :=
  if !s.isServing then s.refuse .state
  else
    match Wire.flag body with
    | none => s.refuse .range
    | some (clear, _) =>
      (if clear then s.modLines fun b => { b with lines := b.lines.map clearLine } else s).done s.linesReport

/-- The timer, start value and repeat flag of START TIMER. -/
def timerFields (body : List Byte) : Option (TimerId × Nat × Bool) :=
  match (Wire.num 1 body).bind fun x => (index? 2 x.1).map (·, x.2) with
  | none => none
  | some (t, rest) => (Wire.num 4 rest).bind fun v => (Wire.flag v.2).map fun r => (t, v.1, r.1)

/-- START TIMER (R140). -/
def decideStartTimer (p : PortId) (body : List Byte) (s : State) : State × Answer :=
  if !s.isServing then s.refuse .state
  else
    match timerFields body with
    | none => s.refuse .range
    | some (t, v, rep) =>
      let s := s.modTriggers fun u => { u with timers := u.timers.modify t (Timer.begin (max v 1) rep (.port p)) }
      (s, { code := if v = 0 then .clamped else .done, body := timerReport (s.triggers.timers.get t) })

/-- STOP TIMER (R140). -/
def decideStopTimer (body : List Byte) (s : State) : State × Answer :=
  if !s.isServing then s.refuse .state
  else
    match (Wire.num 1 body).bind fun x => index? 2 x.1 with
    | none => s.refuse .range
    | some t =>
      let was := timerStateCode (s.triggers.timers.get t)
      let s := s.modTriggers fun u => { u with timers := u.timers.modify t Timer.halt }
      s.done (Wire.u8 was ++ timerReport (s.triggers.timers.get t))

/-- The post of an action passes the checks of R26 check 3 (R149, check 4). -/
def postPartOk (p : PostPart) : Bool :=
  match checkParams p.params, LatePolicy.ofCode p.tail.late with
  | some (kind, _), some _ => (checkGate kind p.tail).isSome
  | _, _ => false

/-- A timer action with a start value of 0 raised to 1 (R149). -/
def raiseStart : TimerAct → TimerAct
  | .start v rep => .start (max v 1) rep
  | a => a

/-- A definition with its timer start values raised (R149). -/
def raiseStarts (d : TriggerDef) : TriggerDef :=
  { d with action := { d.action with timers := d.action.timers.map fun t => (raiseStart t.1, raiseStart t.2) } }

/-- SET TRIGGER (R149). -/
def decideSetTrigger (body : List Byte) (s : State) : State × Answer :=
  if !s.isEditable then s.refuse .state
  else
    match (Wire.num 1 body).bind fun x => (index? 8 x.1).map (·, x.2) with
    | none => s.refuse .range
    | some (k, rest) =>
      if (s.trigger k).enabled then s.refuse .state
      else
        match Wire.triggerDef rest with
        | none => s.refuse .range
        | some d =>
          if !(d.action.post.all postPartOk) then s.refuse .range
          else
            let stored := raiseStarts d
            let s := (s.modTrigger k fun t => { t with defn := stored, markSaturated := false }).retakeLast k
            (s, { code := if stored = d then .done else .clamped, body := defReport stored })

/-- The trigger mask of a request: 1 to 8 triggers (R150, R151). -/
def triggerMask (body : List Byte) : Option (BitVec 8) :=
  match Wire.set8 body with
  | some (m, _) => if m = 0 then none else some m
  | none => none

/-- ENABLE TRIGGERS (R150). -/
def decideEnableTriggers (body : List Byte) (s : State) : State × Answer :=
  if !s.isEditable then s.refuse .state
  else
    match triggerMask body with
    | none => s.refuse .range
    | some mask =>
      if s.triggers.disableOnError && s.triggers.error.flag then s.refuse .error
      else
        let s := forEach 8 (fun k s =>
          if mask.getLsbD k then (s.modTrigger k fun t => { t with enabled := true }).retakeLast k else s) s
        s.done (Wire.u8 s.enabledSet)

/-- DISABLE TRIGGERS (R150). -/
def decideDisableTriggers (body : List Byte) (s : State) : State × Answer :=
  if !s.isEditable then s.refuse .state
  else
    match triggerMask body with
    | none => s.refuse .range
    | some mask =>
      let s := s.modTriggers fun u =>
        { u with triggers := .ofFn fun k =>
            let t := u.triggers.get k
            if mask.getLsbD k then { t with enabled := false } else t }
      s.done (Wire.u8 s.enabledSet)

/-- The triggers of a mask that a request fires: each that is enabled when its turn comes, in number order (R151). The set
answered names those fired so, and not one fired through a chain alone (DESIGN CHOICE: log 58). -/
def fireRequested (mask : BitVec 8) (p : PortId) (s : State) : State × Nat :=
  forEach 8 (fun k x =>
    if mask.getLsbD k && (x.1.trigger k).enabled then (x.1.fire k (.request p), x.2 + 2 ^ k.val) else x) (s, 0)

/-- FIRE TRIGGERS (R151). -/
def decideFireTriggers (p : PortId) (body : List Byte) (s : State) : State × Answer :=
  if !s.isEditable then s.refuse .state
  else
    match triggerMask body with
    | none => s.refuse .range
    | some mask =>
      let x := s.fireRequested mask p
      x.1.done (Wire.u8 x.2)

/-- READ TRIGGER (R152). -/
def decideReadTrigger (body : List Byte) (s : State) : State × Answer :=
  if !s.isServing then s.refuse .state
  else
    match indexAndClear 8 body with
    | none => s.refuse .range
    | some (x, clear) =>
      let ks := named x
      let s' :=
        if clear then s.modTriggers fun u =>
          { u with triggers := .ofFn fun k =>
                     let t := u.triggers.get k
                     if ks.contains k then { t with fires := 0, merged := 0 } else t
                   timers := u.timers.map fun t => { t with expiries := 0 } }
        else s
      s'.done (s.triggersReport ks)

/-- CLEAR ERROR (R154). -/
def decideClearError (s : State) : State × Answer :=
  if !s.isServing then s.refuse .state
  else (s.modTriggers fun u => { u with error := .clear }).done (errorReport s.triggers.error)

/-- SET ERROR POLICY (R154). -/
def decideSetErrorPolicy (body : List Byte) (s : State) : State × Answer :=
  if !s.isEditable then s.refuse .state
  else
    match Wire.flag body with
    | none => s.refuse .range
    | some (on, _) =>
      let s := s.modTriggers fun u => { u with disableOnError := on }
      (if on && s.triggers.error.flag then s.disableAll else s).done []

/-! ### Chapters 9 and 11 -/

/-- READ NOTICES (R166): the report and the clear are one change. -/
def decideReadNotices (p : PortId) (s : State) : State × Answer :=
  if !s.isServing then s.refuse .state
  else (s.modPort p Port.clearNotices).done (s.noticesReport p)

/-- SET NOTICE MASK (R167). -/
def decideSetNoticeMask (p : PortId) (body : List Byte) (s : State) : State × Answer :=
  if !s.isServing then s.refuse .state
  else
    match Wire.set8 body with
    | none => s.refuse .range
    | some (m, _) =>
      let q := s.port p
      (s.modPort p fun q => { q with mask := m }).done
        (Wire.u8 q.mask.toNat ++ Wire.u8 m.toNat ++ Wire.u8 q.notices.toNat)

/-- The first checks of STAGE STORE and PROGRAM STORE: the store takes neither but under select code 7 and while no
programming is in progress (R184, R185). -/
def storeOpen (s : State) : Bool := s.isServing && s.startup.select == 7 && s.startup.programming.isNone

/-- The group a store request names, with the bytes after it (R184 to R186). -/
def groupNamed (body : List Byte) : Option (GroupId × List Byte) :=
  (Wire.num 1 body).bind fun x => (index? 10 x.1).map (·, x.2)

/-- The store group `g` changed by `f`. -/
def modGroup (g : GroupId) (f : StoreGroup → StoreGroup) (s : State) : State :=
  s.modStartup fun u => { u with groups := u.groups.modify g f }

/-- STAGE STORE (R184). -/
def decideStageStore (body : List Byte) (s : State) : State × Answer :=
  if !s.storeOpen then s.refuse .state
  else
    match groupNamed body with
    | none => s.refuse .range
    | some (g, rest) =>
      match readFields (groupKinds g) rest with
      | none => s.refuse .range
      | some fields =>
        if !fieldsInRange (groupKinds g) fields then s.refuse .range
        else if (s.group g).programmed then s.refuse .programmed
        else
          let s := s.modGroup g (StoreGroup.stage fields)
          s.done (s.stagingReport g)

/-- The checks of PROGRAM STORE: the group to be programmed, or the refusal (R185). -/
def programCheck (body : List Byte) (s : State) : Except Code GroupId :=
  if !s.storeOpen then .error .state
  else
    match groupNamed body with
    | none => .error .range
    | some (g, _) => if (s.group g).programmed then .error .programmed else .ok g

/-- READ STORE (R186). -/
def decideReadStore (body : List Byte) (s : State) : State × Answer :=
  if !s.isServing then s.refuse .state
  else
    match (Wire.opt (Wire.num 1) body).bind fun x => optIndex 10 x.1 with
    | none => s.refuse .range
    | some g => s.done (s.storeReport (named g))

/-! ### The request index (9.5) -/

/-- A request decided by its owning block when it is taken (R159). POST CUE, CANCEL CUE and PROGRAM STORE are answered
later and never come here. -/
def decideRequest (kind : ReqKind) (p : PortId) (body : List Byte) (s : State) : State × Answer :=
  match kind with
  | .readClock => s.decideReadClock
  | .setClock => s.decideSetClock body
  | .configureWall => s.decideConfigureWall body
  | .run => s.decideRun p
  | .stop => s.decideStop p
  | .wipe => s.decideWipe
  | .postCue => s.refuse .state
  | .cancelCue => s.refuse .state
  | .cueStatus => s.decideCueStatus body
  | .listCues => s.decideListCues p body
  | .releaseHold => s.decideReleaseHold p
  | .defineLayout => s.decideDefineLayout p body
  | .readLayout => s.decideReadLayout body
  | .readMap => s.decideReadMap
  | .readAdvert => s.decideReadAdvert body
  | .configureStream => s.decideConfigureStream p body
  | .readStream => s.decideReadStream p body
  | .readIntegrity => s.decideReadIntegrity body
  | .readPlan => s.decideReadPlan body
  | .reviveTile => s.decideReviveTile body
  | .readTile => s.decideReadTile body
  | .setLine => s.decideSetLine body
  | .readLines => s.decideReadLines body
  | .startTimer => s.decideStartTimer p body
  | .stopTimer => s.decideStopTimer body
  | .setTrigger => s.decideSetTrigger body
  | .enableTriggers => s.decideEnableTriggers body
  | .disableTriggers => s.decideDisableTriggers body
  | .fireTriggers => s.decideFireTriggers p body
  | .readTrigger => s.decideReadTrigger body
  | .clearError => s.decideClearError
  | .setErrorPolicy => s.decideSetErrorPolicy body
  | .readNotices => s.decideReadNotices p
  | .setNoticeMask => s.decideSetNoticeMask p body
  | .stageStore => s.decideStageStore body
  | .programStore => s.refuse .state
  | .readStore => s.decideReadStore body

end State

end Sys2Proof.Machine
end

