-- ==== Sys2Proof/Machine/RequestFlow.lean ====
section
/-! DEFINITION. How a port receives, queues, takes and answers requests (9.2), and how an admission, a cancel and a
programming end (2.3, 11.2). -/

namespace Sys2Proof.Machine

namespace State

/-! ### Taking (R159) -/

/-- Port `p` has no request in progress. -/
def portIdle (s : State) (p : PortId) : Bool := (s.port p).inProgress.isNone

/-- The request in progress of port `p` becomes `x`. -/
def setProgress (p : PortId) (x : Option InProgress) (s : State) : State :=
  s.modPort p fun q => { q with inProgress := x }

/-- The response to a request (R160). -/
def answer (p : PortId) (r : Request) (a : Answer) (s : State) : State := s.respond p r.kind.code r.tag a.code a.body

/-- The programming of group `g` begins for a request of port `p` (R185). -/
def beginProgramming (p : PortId) (g : GroupId) (s : State) : State :=
  s.modStartup fun u => { u with programming := some { group := g, port := p, answered := true } }

/-- Port `p` takes a request from its queue: the hold is renewed (R36); a POST CUE or CANCEL CUE becomes the port's claim;
a PROGRAM STORE that passes its checks stays in progress; any other is decided and answered now (R159). -/
def takeRequest (p : PortId) (r : Request) (s : State) : State :=
  let s := s.renewHold p
  match r.kind with
  | .postCue => s.setProgress p (some { request := r, granted := false })
  | .cancelCue => s.setProgress p (some { request := r, granted := false })
  | .programStore =>
    match s.programCheck r.body with
    | .error c => s.answer p r (.bare c)
    | .ok g => (s.beginProgramming p g).setProgress p (some { request := r, granted := false })
  | k =>
    let x := s.decideRequest k p r.body
    x.1.answer p r x.2

/-- Port `p` takes the request at the head of its queue while none is in progress (R159). -/
def serveOne (p : PortId) (s : State) : State :=
  if s.portIdle p then
    match (s.port p).queue with
    | [] => s
    | r :: rs => ((s.modPort p fun q => { q with queue := rs }).takeRequest p r).settle
  else s

/-- Port `p` takes requests from its queue, at most `fuel` of them. -/
def serve (p : PortId) : Nat → State → State
  | 0, s => s
  | fuel + 1, s => serve p fuel (s.serveOne p)

/-- Port `p` takes what waits in its queue while it has no request in progress (R159). -/
def drainPort (p : PortId) (s : State) : State := s.serve p (s.port p).queue.length

/-! ### Arrival (R159, R161) -/

/-- A message can be received on the link of port `p`: the link is UP, and no frame packet is arriving on it (R159,
R170). -/
def receives (s : State) (p : PortId) : Bool := s.linkUp p && (s.store.arrivals.get p).isNone

/-- A control message of kind byte `code` arrives whole at port `p`: refused at arrival by its header or by a full queue,
or appended to the queue and taken as soon as the port is free. While the link is not UP, or a frame packet fills a
buffer on it, none is received (R170; log 28). -/
def arrive (p : PortId) (code : Byte) (tag : Tag) (body : List Byte) (s : State) : State :=
  if !s.receives p then s
  else
    match ReqKind.ofCode code with
    | none => s.respond p code tag .range []
    | some kind =>
      if 4096 < body.length then s.respond p code tag .range []
      else if 4 ≤ (s.port p).queue.length then s.respond p code tag .queue []
      else
        (s.modPort p fun q => { q with queue := q.queue ++ [{ kind := kind, tag := tag, body := body }] }).drainPort p

/-! ### The end of start-up (R179) -/

/-- Start-up ends: the start state is printed, and the player links leave HELD unless the wall is HALTED or the select
code is 5 (R156, R179). -/
def endStartup (s : State) : State :=
  let s := (s.modStartup fun u => { u with phase := .ended }).print [.startState s.wall.state]
  if s.wall.state = .halted ∨ s.startup.select = 5 then s
  else s.modPorts fun ports =>
    { a := if ports.a.link = .held then { ports.a with link := .down } else ports.a
      b := if ports.b.link = .held then { ports.b with link := .down } else ports.b }

/-- The Start-up Controller issues RUN; a refusal is printed (R180). -/
def startupRun (s : State) : State :=
  match s.takeRun none with
  | .error c => s.print [.refused c]
  | .ok s' => s'

/-- What the console prints of the outcome of a CONSOLE post (R29, R175). -/
def postLine : PostOutcome → ConsoleOut
  | .inserted r g slipped id _ n => .posted (r || g) id n slipped
  | o => .refused o.code

/-- The Start-up Controller's post has been answered: the console prints the answer; under code 1 RUN follows; start-up
ends (R29, R180). -/
def startupAnswered (o : PostOutcome) (s : State) : State :=
  let s := s.print [postLine o]
  let s := if s.startup.select = 1 then s.startupRun else s
  s.endStartup

/-! ### The end of an admission or a cancel (R23, R29, R31) -/

/-- The granted operation of port `p` is answered, and its request is no longer in progress (R159); the response is
discarded once the link has been down since the grant (R158). -/
def answerGrant (p : PortId) (answered : Bool) (a : Answer) (s : State) : State :=
  if !answered then s
  else
    match (s.port p).inProgress with
    | none => s
    | some x => ((s.answer p x.request a).setProgress p none).settle.drainPort p

/-- The outcome of a console post, printed (R175). -/
def printPost (o : PostOutcome) (s : State) : State := s.consoleBack [postLine o]

/-- The outcome of trigger `k`'s post: written as its last post outcome; the post leaves the queue (R147). -/
def recordPost (k : TriggerId) (o : PostOutcome) (s : State) : State :=
  (s.modTriggers fun u => { u with posts := u.posts.tail }).modTrigger k fun t =>
    { t with lastPost := some o, postPending := false }

/-- The owner a claimant posts for (R19, R30). -/
def claimOwner : ClaimFrom → Owner
  | .port p => .port p
  | .typed => .console
  | .startup => .console
  | .trigger k => .trigger k

/-- No operation is in progress any more. -/
def ungrant (s : State) : State := s.modArbiter fun a => { a with granted := none }

/-- The granted admission completes: the checks are made and the outcome goes to the requester (R26, R29). -/
def completeAdmission (s : State) : State :=
  match s.arbiter.granted with
  | some { claimant := c, op := .post raw, answered := answered } =>
    let x := s.ungrant.judgePost (claimOwner c) raw
    match c with
    | .port p => x.1.answerGrant p answered { code := x.2.code, body := x.2.body }
    | .typed => x.1.printPost x.2
    | .startup => x.1.startupAnswered x.2
    | .trigger k => x.1.recordPost k x.2
  | _ => s

/-- The granted cancel completes (R31). -/
def completeCancel (s : State) : State :=
  match s.arbiter.granted with
  | some { claimant := .port p, op := .cancel id, answered := answered } =>
    let x := s.ungrant.cancel p id
    x.1.answerGrant p answered x.2
  | _ => s

/-- The programming in progress ends: the group holds the contents written, and the request is answered (R185). -/
def endProgramming (s : State) : State :=
  match s.startup.programming with
  | none => s
  | some x =>
    let contents := (s.group x.group).programmedContents x.group
    let s := (s.modGroup x.group (StoreGroup.programEnd x.group)).modStartup fun u => { u with programming := none }
    s.answerGrant x.port x.answered
      { code := .done, body := writeFields (groupKinds x.group) contents }

end State

end Sys2Proof.Machine
end

