-- ==== Sys2Proof/Machine/ConsoleOps.lean ====
section
/-! DEFINITION. The service console: its reports, what each of its commands does, how a line is edited and how it is read
(chapter 10). -/

namespace Sys2Proof.Machine

/-- A command of the console with its number (R173). -/
inductive ConsoleCommand where
  | help | map | cues | layout (n : Nat) | run | stop | test | wrap (n : Nat) | description
  deriving DecidableEq, Repr

/-- The letters of the nine command names. -/
def commandNames : List (List Byte × (Option Nat → ConsoleCommand)) :=
  [([0x48, 0x45, 0x4C, 0x50], fun _ => .help),
   ([0x4D, 0x41, 0x50], fun _ => .map),
   ([0x43, 0x55, 0x45, 0x53], fun _ => .cues),
   ([0x4C, 0x41, 0x59, 0x4F, 0x55, 0x54], fun n => .layout (n.getD 0)),
   ([0x52, 0x55, 0x4E], fun _ => .run),
   ([0x53, 0x54, 0x4F, 0x50], fun _ => .stop),
   ([0x54, 0x45, 0x53, 0x54], fun _ => .test),
   ([0x57, 0x52, 0x41, 0x50], fun n => .wrap (n.getD 0)),
   ([0x44, 0x45, 0x53, 0x43, 0x52, 0x49, 0x50, 0x54, 0x49, 0x4F, 0x4E], fun _ => .description)]

/-- The largest number a command takes, for the two that take one (R173). -/
def ConsoleCommand.numberMax : ConsoleCommand → Option Nat
  | .layout _ => some 15
  | .wrap _ => some 23
  | _ => none

namespace State

/-! ### Reports (R174) -/

/-- MAP (R174). -/
def mapLines (s : State) : ConsoleOut :=
  .mapReport s.wall.state s.plan.newest (48 - (s.store.inState .retired).length)
    (s.layouts.geometry.positions.map fun j =>
      let t := s.tile j
      { state := t.state, reason := t.reason, depth := t.depth, source := (s.layouts.map.get j).source })

/-- CUES (R174), with both N, where there is one, and T of each cue (DESIGN CHOICE: log 66). -/
def cuesLines (s : State) : ConsoleOut :=
  .cuesReport s.plan.newest s.holder
    (s.cues.list.map fun c =>
      { id := c.id, owner := c.owner, kind := c.kind, due := c.due, time := c.time, waiting := c.waiting })

/-- The wall name of group G0's values. -/
def wallName (vs : List FieldVal) : List Nat :=
  match vs.head? with
  | some (.name cs) => cs
  | _ => []

/-- DESCRIPTION (R174). The wall name and installer number are those of the active configuration: the values loaded at the
last store load, else the defaults (DESIGN CHOICE: log 54). -/
def descriptionLines (s : State) : ConsoleOut :=
  .descriptionReport (wallName (s.loadedFrom 0)) (numAt (s.loadedFrom 0) 1)
    ((List.finRange 10).map fun g => ((s.group g).programmed, (s.group g).usable)) s.activeConfig

/-! ### Commands (R174 to R177) -/

/-- The post of a typed LAYOUT n: NEXT with offset 0, SLIP, gate NONE (R175). -/
def layoutPost (n : Nat) : RawPost :=
  { params := some (.takeLayout n), due := some (.next 0),
    tail := some { late := 1, gate := 0, patience := none, onTimeout := none } }

/-- LAYOUT n: the console waits, with its claim at the arbiter (R175). -/
def postLayout (n : Nat) (s : State) : State :=
  if 15 < n then s.printPrompt [.complaint .range]
  else (s.modConsole fun c => { c with mode := .waiting }).modArbiter fun a => { a with typedClaim := some (layoutPost n) }

/-- RUN at the console (R175). -/
def typedRun (s : State) : State :=
  match s.takeRun none with
  | .error c => s.printPrompt [.refused c]
  | .ok s' => s'.printPrompt [.runAt (epochAt s.wall.clock s.period)]

/-- STOP at the console (R175; log 24 for what it prints). -/
def typedStop (s : State) : State :=
  match s.takeStop none with
  | .error c => s.printPrompt [.refused c]
  | .ok s' => s'.printPrompt [.stopped]

/-- TEST at the console (R176). -/
def typedTest (s : State) : State :=
  match s.takeTest with
  | .error c => s.printPrompt [.refused c]
  | .ok s' => s'

/-- WRAP of position `j`: the controller joins its service channel while its link is up (R130, R177). -/
def joinWrap (j : TileId) (s : State) : State :=
  if (s.tile j).linkUp && (s.tile j).state != .off then
    (s.modTile j fun t => { t with wrapped := true }).modConsole fun c =>
      { c with mode := .wrap, target := some j, printed := c.printed ++ [.wrapped j] }
  else s.printPrompt [.notUp]

/-- WRAP n (R173, R177). -/
def typedWrap (n : Nat) (s : State) : State :=
  match index? 24 n with
  | none => s.printPrompt [.complaint .range]
  | some j => s.joinWrap j

/-- Ctrl-D ends the wrap: the controller clears its flag (R130, R177). -/
def endWrap (s : State) : State :=
  let s' := match s.console.target with
    | some j => s.modTile j fun t => { t with wrapped := false }
    | none => s
  (s'.modConsole fun c => { c with target := none }).consoleBack []

/-- HELP: the nine command names, each with whether it takes a number (R174). -/
def helpLines : ConsoleOut := .help (commandNames.map fun n => (n.1, (n.2 none).numberMax.isSome))

/-- A command carried out (R173). -/
def command (c : ConsoleCommand) (s : State) : State :=
  match c with
  | .help => s.printPrompt [helpLines]
  | .map => s.printPrompt [s.mapLines]
  | .cues => s.printPrompt [s.cuesLines]
  | .description => s.printPrompt [s.descriptionLines]
  | .layout n => s.postLayout n
  | .run => s.typedRun
  | .stop => s.typedStop
  | .test => s.typedTest
  | .wrap n => s.typedWrap n

/-- A command named by a whole typed line, the carriage return that ends it included: taken in mode PROMPT, with the line
buffer emptied (R172; log 23). -/
def typed (c : ConsoleCommand) (s : State) : State :=
  if s.console.mode = .prompt then (s.modConsole fun x => { x with line := [], afterReturn := true }).command c else s

/-- A character other than a carriage return has been received (R172). -/
def notReturn (s : State) : State := s.modConsole fun x => { x with afterReturn := false }

/-- Ctrl-C in mode TEST (R176). -/
def takeCtrlC (s : State) : State := if s.console.mode = .test then s.notReturn.leaveTesting else s

/-- Ctrl-D in mode WRAP (R177). -/
def takeCtrlD (s : State) : State := if s.console.mode = .wrap then s.notReturn.endWrap else s

end State

/-! ### Reading a line (R173) -/

/-- The command a word names, when it is a leading part of a name. -/
def nameOf (word : List Byte) : Option (Option Nat → ConsoleCommand) :=
  if word.isEmpty then none else (commandNames.find? fun n => word.isPrefixOf n.1).map (·.2)

/-- The words of a line: its blanks stand alone between them (R172). -/
def splitWords : List Byte → List Byte → List (List Byte)
  | word, [] => [word.reverse]
  | word, c :: cs => if c = 0x20 then word.reverse :: splitWords [] cs else splitWords (c :: word) cs

/-- A decimal number. -/
def decimal (word : List Byte) : Option Nat :=
  if word.isEmpty then none
  else if word.all fun c => decide (0x30 ≤ c.toNat) && decide (c.toNat ≤ 0x39) then
    some (word.foldl (fun n c => 10 * n + (c.toNat - 0x30)) 0)
  else none

/-- A line read as a command, or the message printed for it; the cases are looked at in the order of R173's table
(log 24). -/
def readLine (line : List Byte) : Except Complaint ConsoleCommand :=
  match splitWords [] line with
  | [] => .error .what
  | word :: rest =>
    match nameOf word with
    | none => .error .what
    | some make =>
      match (make none).numberMax with
      | none => if rest.isEmpty then .ok (make none) else .error .what
      | some top =>
        match rest with
        | [] => .error .number
        | w :: more =>
          match decimal w with
          | none => .error .number
          | some n => if top < n then .error .range else if more.isEmpty then .ok (make (some n)) else .error .what

namespace State

/-! ### Editing a line (R172) -/

/-- A line without its trailing blank. -/
def trimLine (line : List Byte) : List Byte := if line.getLast? = some 0x20 then line.dropLast else line

/-- A character stored and echoed; the 29th discards the whole line (R172). -/
def storeChar (c : Byte) (s : State) : State :=
  if 28 ≤ s.console.line.length then
    (s.modConsole fun x => { x with line := [] }).printPrompt [.lineTooLong]
  else s.modConsole fun x => { x with line := x.line ++ [c], printed := x.printed ++ [.echo c] }

/-- The line ends (R172, R173). -/
def endLine (s : State) : State :=
  let line := trimLine s.console.line
  let s := s.modConsole fun x => { x with line := [] }
  if line.isEmpty then s.printPrompt []
  else
    match readLine line with
    | .error c => s.printPrompt [.complaint c]
    | .ok c => s.command c

/-- A character in mode PROMPT (R172). -/
def editChar (c : Byte) (afterReturn : Bool) (s : State) : State :=
  if c = 0x20 ∨ c = 0x09 then
    if s.console.line.isEmpty ∨ s.console.line.getLast? = some 0x20 then s else s.storeChar 0x20
  else if c = 0x7F then
    if s.console.line.isEmpty then s
    else s.modConsole fun x => { x with line := x.line.dropLast, printed := x.printed ++ [.erase] }
  else if c = 0x15 then (s.modConsole fun x => { x with line := [] }).printPrompt [.newLine]
  else if c = 0x0D then s.endLine
  else if c = 0x0A then if afterReturn then s else s.endLine
  else if 0x61 ≤ c.toNat ∧ c.toNat ≤ 0x7A then s.storeChar (c - 0x20)
  else if 0x20 ≤ c.toNat ∧ c.toNat ≤ 0x7E then s.storeChar c
  else s

/-- A character passed to the wrapped tile unchanged (R177), in a service message of its own (DESIGN CHOICE: log 57). -/
def passChar (c : Byte) (s : State) : State :=
  match s.console.target with
  | some j => s.send j (.service [c])
  | none => s

/-- A character received, by the console's mode (R172, R176, R177). -/
def takeChar (c : Byte) (s : State) : State :=
  let afterReturn := s.console.afterReturn
  let s := s.modConsole fun x => { x with afterReturn := c == 0x0D }
  match s.console.mode with
  | .prompt => s.editChar c afterReturn
  | .waiting => s
  | .test => if c = 0x03 then s.takeCtrlC else s
  | .wrap => if c = 0x04 then s.takeCtrlD else s.passChar c

end State

end Sys2Proof.Machine
end

