-- ==== Sys2Proof/Machine/ConsoleRows.lean ====
section
/-! DEFINITION. The commands of the service console: CONSOLE_CHARACTER, and the rows that stand for a whole typed line
(chapter 10; log 23). -/

namespace Sys2Proof.Machine

/-- CONSOLE_CHARACTER (R172). -/
def execConsoleCharacter (c : Byte) (s : State) : Host.Outcome State Fault Refusal := change (State.takeChar c) s

/-- HELP (R174). -/
def execHelp (s : State) : Host.Outcome State Fault Refusal := change (State.typed .help) s

/-- MAP (R174). -/
def execMap (s : State) : Host.Outcome State Fault Refusal := change (State.typed .map) s

/-- CUES (R174). -/
def execCues (s : State) : Host.Outcome State Fault Refusal := change (State.typed .cues) s

/-- DESCRIPTION (R174). -/
def execDescription (s : State) : Host.Outcome State Fault Refusal := change (State.typed .description) s

/-- LAYOUT n (R175). -/
def execLayout (number : Nat) (s : State) : Host.Outcome State Fault Refusal := change (State.typed (.layout number)) s

/-- RUN typed at the console (R175). -/
def execConsoleRun (s : State) : Host.Outcome State Fault Refusal := change (State.typed .run) s

/-- STOP typed at the console (R175). -/
def execConsoleStop (s : State) : Host.Outcome State Fault Refusal := change (State.typed .stop) s

/-- TEST (R176). -/
def execTest (s : State) : Host.Outcome State Fault Refusal := change (State.typed .test) s

/-- TEST_END: Ctrl-C in mode TEST (R176). -/
def execTestEnd (s : State) : Host.Outcome State Fault Refusal := change State.takeCtrlC s

/-- WRAP n (R177). -/
def execWrap (number : Nat) (s : State) : Host.Outcome State Fault Refusal := change (State.typed (.wrap number)) s

/-- WRAP_END: Ctrl-D in mode WRAP (R177). -/
def execWrapEnd (s : State) : Host.Outcome State Fault Refusal := change State.takeCtrlD s

end Sys2Proof.Machine
end

