-- ==== Sys2Proof/Machine/FrameRows.lean ====
section
/-! DEFINITION. The commands of the frame store: FRAME_PACKET, FRAME_ARRIVAL_END, PICK, RELEASE and INTEGRITY_FAILURE
(chapter 5). -/

namespace Sys2Proof.Machine

/-- The stream of local number `n` on port `p`: 0..3 (R163). -/
def localStream (p : PortId) (n : Nat) : Option StreamId :=
  if n < 4 then index? 8 (match p with | .a => n | .b => n + 4) else none

namespace State

/-- The header of a frame packet taken at port `p` (R79, R163, R170). A packet cannot come while the link is not UP, nor
inside another one (log 28). -/
def takePacket (p : PortId) (n gen number width height : Nat) (s : State) : State :=
  if !s.receives p then s
  else
    match localStream p n with
    | none => s.modPort p fun q => { q with stray := bump q.stray }
    | some st =>
      if s.streamReady st then s.modStore (FrameStore.startArrival p st gen number width height)
      else s.modStore (FrameStore.crossed st)

/-- The length in bytes of the picture that is arriving at port `p` (R170). -/
def arrivalBytes (s : State) (p : PortId) : Option Nat :=
  match s.store.arrivals.get p with
  | none => none
  | some b => (s.buffer b).frame.map fun f => f.width * f.height * 3

/-- The end of an arrival, once every byte of the picture has come (R80; log 28). -/
def endPacket (p : PortId) (picture : List Byte) (s : State) : State :=
  if s.arrivalBytes p = some picture.length then s.modStore (FrameStore.endArrival p picture) else s

/-- A release that was sent arrives (R86; log 27). -/
def arriveRelease (b : BufId) (fill : Nat) (s : State) : State :=
  if s.store.releases.contains (b, fill) then
    s.modStore fun fs => ({ fs with releases := fs.releases.erase (b, fill) } : FrameStore).takeRelease b fill
  else s

/-- The buffer tile `j` is reading, with its frame, while its bad flag is clear (R88). -/
def reading (s : State) (j : TileId) : Option (BufId × Frame × Nat) :=
  match (s.tile j).dispatches with
  | { refresh := n, phase := .sending load true } :: _ =>
    match load.named with
    | some (b, _) => if (s.buffer b).bad then none else (s.buffer b).frame.map fun f => (b, f, n)
    | none => none
  | _ => none

/-- The read of tile `j` finds a mismatch (R88, R124). -/
def failIntegrity (j : TileId) (s : State) : State :=
  match s.reading j with
  | none => s
  | some (b, f, n) =>
    let s := s.modStore (FrameStore.markBad b f j n)
    let s := (s.setError (.integrity b)).raiseBoth .store
    let s := s.modTile j fun t =>
      { t with totals := { t.totals with integrityBlack := bump t.totals.integrityBlack } }
    s.endDispatch j .blackEnd

end State

/-- FRAME_PACKET (R79). -/
def execFramePacket (p : PortId) (stream gen : Byte) (number : BitVec 32) (width height : BitVec 16) (s : State) :
    Host.Outcome State Fault Refusal :=
  change (State.takePacket p stream.toNat gen.toNat number.toNat width.toNat height.toNat) s

/-- FRAME_ARRIVAL_END (R80). -/
def execFrameArrivalEnd (p : PortId) (picture : List Byte) (s : State) : Host.Outcome State Fault Refusal :=
  change (State.endPacket p picture) s

/-- PICK (R84). -/
def execPick (st : StreamId) (s : State) : Host.Outcome State Fault Refusal := change (State.takePick st) s

/-- RELEASE (R86). -/
def execRelease (b : BufId) (fill : Nat) (s : State) : Host.Outcome State Fault Refusal :=
  change (State.arriveRelease b fill) s

/-- INTEGRITY_FAILURE (R88). -/
def execIntegrityFailure (j : TileId) (s : State) : Host.Outcome State Fault Refusal := change (State.failIntegrity j) s

end Sys2Proof.Machine
end

