-- ==== Sys2Proof/Machine/TimeRows.lean ====
section
/-! DEFINITION. The commands of time: SHOW_TICK, the boundaries, and the counts that end at 0 (R1, R11, R16, R36, R119,
R134, R135, R139, R185). -/

namespace Sys2Proof.Machine

namespace State

/-- The hold lapses: HOLD is raised at the former holder (R38). -/
def lapseHold (s : State) : State :=
  match s.cues.hold with
  | some h => if h.lapse = 0 then (s.modCues fun q => { q with hold := none }).raise h.holder .hold else s
  | none => s

/-- The training count of a TRAINING tile has reached 0 (R119). -/
def timeoutTraining (j : TileId) (s : State) : State :=
  if (s.tile j).state = .training ∧ (s.tile j).training = some 0 then s.faultTile j .silent else s

/-- The settled level of line `l` changes and its edge goes to the triggers (R134). -/
def settleLine (l : LineId) (s : State) : State :=
  let rise := (s.line l).reading
  (s.modLine l Line.settle).react (.edge l rise)

/-- The debounce count of an INPUT line has reached 0 (R134). -/
def endDebounce (l : LineId) (s : State) : State :=
  if (s.line l).config.mode = .input ∧ (s.line l).debounceCount = some 0 then s.settleLine l else s

/-- A pulse count has reached 0: the pulse ends (R135). -/
def endPulse (l : LineId) (s : State) : State :=
  if (s.line l).pulseCount = some 0 then s.modLine l fun x => { x with pulseCount := none } else s

/-- A running timer's count has reached 0: it expires, and the expiry goes to the triggers (R139). -/
def expireTimer (t : TimerId) (s : State) : State :=
  let x := s.triggers.timers.get t
  if x.running ∧ x.count = 0 then
    (s.modTriggers fun u => { u with timers := u.timers.modify t Timer.expire }).react (.timer t)
  else s

end State

/-- SHOW_TICK (R1). -/
def execShowTick (s : State) : Host.Outcome State Fault Refusal := change State.tick s

/-- BOUNDARY (R11): it comes while the wall is RUNNING or DARK and the clock has reached E + n × Pw. -/
def execBoundary (early : BitVec 24) (s : State) : Host.Outcome State Fault Refusal :=
  change (fun s => if s.wallRuns && s.boundaryDue then s.announceBoundary early s.nextBoundary else s) s

/-- TEST_BOUNDARY (R16): it comes while the wall is TESTING. -/
def execTestBoundary (early : BitVec 24) (s : State) : Host.Outcome State Fault Refusal :=
  change (fun s =>
    if s.wall.state == .testing && s.boundaryDue then s.announceTestBoundary early s.nextBoundary else s) s

/-- HOLD_LAPSE (R36, R38). -/
def execHoldLapse (s : State) : Host.Outcome State Fault Refusal := change State.lapseHold s

/-- TRAINING_TIMEOUT (R119). -/
def execTrainingTimeout (j : TileId) (s : State) : Host.Outcome State Fault Refusal :=
  change (State.timeoutTraining j) s

/-- DEBOUNCE_END (R134). -/
def execDebounceEnd (l : LineId) (s : State) : Host.Outcome State Fault Refusal := change (State.endDebounce l) s

/-- PULSE_END (R135). -/
def execPulseEnd (l : LineId) (s : State) : Host.Outcome State Fault Refusal := change (State.endPulse l) s

/-- TIMER_EXPIRY (R139). -/
def execTimerExpiry (t : TimerId) (s : State) : Host.Outcome State Fault Refusal := change (State.expireTimer t) s

/-- PROGRAMMING_END (R185). -/
def execProgrammingEnd (s : State) : Host.Outcome State Fault Refusal := change State.endProgramming s

end Sys2Proof.Machine
end

