-- ==== Sys2Proof/Machine/LineRows.lean ====
section
/-! DEFINITION. RAW_LEVEL_CHANGE: a general line's pin is sampled at a new level (R134). -/

namespace Sys2Proof.Machine

namespace State

/-- A raw level taken in INPUT mode: a level that agrees with the settled one stops the count; one that differs starts
it, and with a debounce of 0 settles at once (R134). In other modes it is sampled alone (R132). -/
def takeRaw (l : LineId) (high : Bool) (s : State) : State :=
  if (s.line l).rawHigh = high then s
  else
    let s := s.modLine l fun x => { x with rawHigh := high }
    let x := s.line l
    if x.config.mode ≠ .input then s
    else if x.reading = x.settled then s.modLine l fun x => { x with debounceCount := none }
    else if x.config.debounce = 0 then s.settleLine l
    else s.modLine l fun x => { x with debounceCount := some x.config.debounce }

/-- The pin of a line while RESET is held: the line, at its cold-reset values, keeps to its pin (log 3, log 11). -/
def trackPin (l : LineId) (high : Bool) (s : State) : State :=
  s.modLine l fun x => { x with rawHigh := high, settled := high }

end State

/-- RAW_LEVEL_CHANGE (R134). -/
def execRawLevelChange (l : LineId) (high : Bool) (s : State) : Host.Outcome State Fault Refusal :=
  .next (if s.resetHeld then s.trackPin l high else (s.takeRaw l high).settle)

end Sys2Proof.Machine
end

