-- ==== Sys2Proof/Machine/LinkRows.lean ====
section
/-! DEFINITION. The commands of the player links: LINK_UP, LINK_CLOSED, LINK_LOST, UNFRAMEABLE_MESSAGE and
READINESS_MESSAGE (9.1, R170). -/

namespace Sys2Proof.Machine

namespace State

/-- The readiness of port `p`'s four streams, local stream 0 in bit 0 (R170). -/
def readyBits (s : State) (p : PortId) : BitVec 4 :=
  let base := match p with | .a => 0 | .b => 4
  BitVec.ofNat 4 (((List.finRange 8).map fun st =>
    if FrameStore.portOf st = p ∧ s.streamReady st then 2 ^ (st.val - base) else 0).sum)

/-- A DOWN link comes up (R157). The readiness message is made with the link free, so it is sent as it is made. -/
def bringUp (p : PortId) (s : State) : State :=
  if (s.port p).link = .down then
    let s := s.modPort p fun q => { q.clearNotices with link := .up, queue := [], inProgress := none, mask := 0xFF }
    let s := s.modStore (FrameStore.linkUp p)
    let s := s.modPins fun x =>
      { x with ready := .ofFn fun st => if FrameStore.portOf st = p then s.streamReady st else x.ready.get st }
    s.modPort p fun q => { q with outbox := q.outbox ++ [.readiness (s.readyBits p)] }
  else s

/-- The granted operation of port `p`, if any, is carried to its end unanswered (R23, R158). -/
def disownGrant (p : PortId) (s : State) : State :=
  s.modArbiter fun a =>
    { a with granted := a.granted.map fun g => if g.claimant = .port p then { g with answered := false } else g }

/-- The programming of port `p`, if any, is carried to its end unanswered (R158, R185). -/
def disownProgramming (p : PortId) (s : State) : State :=
  s.modStartup fun u =>
    { u with programming := u.programming.map fun x => if x.port = p then { x with answered := false } else x }

/-- An UP link leaves UP with a cause (R156, R158). -/
def takeDown (p : PortId) (cause : DownCause) (s : State) : State :=
  if s.linkUp p then
    let s := s.modPort p fun q =>
      { q.clearNotices with link := .down, cause := some cause, queue := [], inProgress := none,
                            outbox := q.outbox.filter (· ≠ .readinessDue) }
    let s := (s.disownGrant p).disownProgramming p
    (s.dropHold p).modStore (FrameStore.linkDown p)
  else s

/-- The waiting readiness message of port `p` is sent: it states the readiness as it stands (R170). -/
def sendReadiness (p : PortId) (s : State) : State :=
  if s.linkUp p then
    s.modPort p fun q =>
      { q with outbox := q.outbox.map fun m => if m = .readinessDue then .readiness (s.readyBits p) else m }
  else s

end State

/-- LINK_UP (R157). -/
def execLinkUp (p : PortId) (s : State) : Host.Outcome State Fault Refusal := change (State.bringUp p) s

/-- LINK_CLOSED (R158). -/
def execLinkClosed (p : PortId) (s : State) : Host.Outcome State Fault Refusal := change (State.takeDown p .closed) s

/-- LINK_LOST (R158). -/
def execLinkLost (p : PortId) (s : State) : Host.Outcome State Fault Refusal := change (State.takeDown p .lost) s

/-- The type bytes of the messages a port can frame (R170). -/
def inboundTypes : List Byte := [0x01, 0x02]

/-- UNFRAMEABLE_MESSAGE (R170): the type byte is none of the inbound types. Inside a frame packet no message is received
(log 28). -/
def execUnframeableMessage (p : PortId) (type : Byte) (s : State) : Host.Outcome State Fault Refusal :=
  change (fun s => if !inboundTypes.contains type && s.receives p then s.takeDown p .protocol else s) s

/-- READINESS_MESSAGE (R170). -/
def execReadinessMessage (p : PortId) (s : State) : Host.Outcome State Fault Refusal :=
  change (State.sendReadiness p) s

end Sys2Proof.Machine
end

