-- ==== Sys2Proof/Machine/RequestRows.lean ====
section
/-! DEFINITION. The commands that are the arrival of a control message on a player link (R159, R161), and the ends of the
arbiter's operations (R26, R31). What each request does when it is taken stands in Requests.lean. -/

namespace Sys2Proof.Machine

/-- READ CLOCK (R3); `kind` is the kind byte of the header, so that the row also holds a header with a kind outside the
request index (R161, HEADER_REFUSAL). -/
def execReadClock (p : PortId) (kind : Byte) (tag : Tag) (body : List Byte) (s : State) :
    Host.Outcome State Fault Refusal :=
  change (State.arrive p kind tag body) s

/-- SET CLOCK (R2). -/
def execSetClock (p : PortId) (tag : Tag) (body : List Byte) (s : State) : Host.Outcome State Fault Refusal :=
  change (State.arrive p (ReqKind.code .setClock) tag body) s

/-- CONFIGURE WALL (R5). -/
def execConfigureWall (p : PortId) (tag : Tag) (body : List Byte) (s : State) : Host.Outcome State Fault Refusal :=
  change (State.arrive p (ReqKind.code .configureWall) tag body) s

/-- RUN (R9). -/
def execRun (p : PortId) (tag : Tag) (body : List Byte) (s : State) : Host.Outcome State Fault Refusal :=
  change (State.arrive p (ReqKind.code .run) tag body) s

/-- STOP (R14). -/
def execStop (p : PortId) (tag : Tag) (body : List Byte) (s : State) : Host.Outcome State Fault Refusal :=
  change (State.arrive p (ReqKind.code .stop) tag body) s

/-- WIPE (R15). -/
def execWipe (p : PortId) (tag : Tag) (body : List Byte) (s : State) : Host.Outcome State Fault Refusal :=
  change (State.arrive p (ReqKind.code .wipe) tag body) s

/-- POST CUE: it becomes the port's claim at the arbiter (R23, R26). -/
def execPostCue (p : PortId) (tag : Tag) (body : List Byte) (s : State) : Host.Outcome State Fault Refusal :=
  change (State.arrive p (ReqKind.code .postCue) tag body) s

/-- CANCEL CUE: it becomes the port's claim at the arbiter (R23, R31). -/
def execCancelCue (p : PortId) (tag : Tag) (body : List Byte) (s : State) : Host.Outcome State Fault Refusal :=
  change (State.arrive p (ReqKind.code .cancelCue) tag body) s

/-- CUE STATUS (R33). -/
def execCueStatus (p : PortId) (tag : Tag) (body : List Byte) (s : State) : Host.Outcome State Fault Refusal :=
  change (State.arrive p (ReqKind.code .cueStatus) tag body) s

/-- LIST CUES (R34). -/
def execListCues (p : PortId) (tag : Tag) (body : List Byte) (s : State) : Host.Outcome State Fault Refusal :=
  change (State.arrive p (ReqKind.code .listCues) tag body) s

/-- RELEASE HOLD (R38). -/
def execReleaseHold (p : PortId) (tag : Tag) (body : List Byte) (s : State) : Host.Outcome State Fault Refusal :=
  change (State.arrive p (ReqKind.code .releaseHold) tag body) s

/-- DEFINE LAYOUT (R47). -/
def execDefineLayout (p : PortId) (tag : Tag) (body : List Byte) (s : State) : Host.Outcome State Fault Refusal :=
  change (State.arrive p (ReqKind.code .defineLayout) tag body) s

/-- READ LAYOUT (R49). -/
def execReadLayout (p : PortId) (tag : Tag) (body : List Byte) (s : State) : Host.Outcome State Fault Refusal :=
  change (State.arrive p (ReqKind.code .readLayout) tag body) s

/-- READ MAP (R53). -/
def execReadMap (p : PortId) (tag : Tag) (body : List Byte) (s : State) : Host.Outcome State Fault Refusal :=
  change (State.arrive p (ReqKind.code .readMap) tag body) s

/-- READ ADVERT (R71). -/
def execReadAdvert (p : PortId) (tag : Tag) (body : List Byte) (s : State) : Host.Outcome State Fault Refusal :=
  change (State.arrive p (ReqKind.code .readAdvert) tag body) s

/-- CONFIGURE STREAM (R75). -/
def execConfigureStream (p : PortId) (tag : Tag) (body : List Byte) (s : State) : Host.Outcome State Fault Refusal :=
  change (State.arrive p (ReqKind.code .configureStream) tag body) s

/-- READ STREAM (R92). -/
def execReadStream (p : PortId) (tag : Tag) (body : List Byte) (s : State) : Host.Outcome State Fault Refusal :=
  change (State.arrive p (ReqKind.code .readStream) tag body) s

/-- READ INTEGRITY (R89). -/
def execReadIntegrity (p : PortId) (tag : Tag) (body : List Byte) (s : State) : Host.Outcome State Fault Refusal :=
  change (State.arrive p (ReqKind.code .readIntegrity) tag body) s

/-- READ PLAN (R110). -/
def execReadPlan (p : PortId) (tag : Tag) (body : List Byte) (s : State) : Host.Outcome State Fault Refusal :=
  change (State.arrive p (ReqKind.code .readPlan) tag body) s

/-- REVIVE TILE (R127). -/
def execReviveTile (p : PortId) (tag : Tag) (body : List Byte) (s : State) : Host.Outcome State Fault Refusal :=
  change (State.arrive p (ReqKind.code .reviveTile) tag body) s

/-- READ TILE (R128). -/
def execReadTile (p : PortId) (tag : Tag) (body : List Byte) (s : State) : Host.Outcome State Fault Refusal :=
  change (State.arrive p (ReqKind.code .readTile) tag body) s

/-- SET LINE (R137). -/
def execSetLine (p : PortId) (tag : Tag) (body : List Byte) (s : State) : Host.Outcome State Fault Refusal :=
  change (State.arrive p (ReqKind.code .setLine) tag body) s

/-- READ LINES (R138). -/
def execReadLines (p : PortId) (tag : Tag) (body : List Byte) (s : State) : Host.Outcome State Fault Refusal :=
  change (State.arrive p (ReqKind.code .readLines) tag body) s

/-- START TIMER (R140). -/
def execStartTimer (p : PortId) (tag : Tag) (body : List Byte) (s : State) : Host.Outcome State Fault Refusal :=
  change (State.arrive p (ReqKind.code .startTimer) tag body) s

/-- STOP TIMER (R140). -/
def execStopTimer (p : PortId) (tag : Tag) (body : List Byte) (s : State) : Host.Outcome State Fault Refusal :=
  change (State.arrive p (ReqKind.code .stopTimer) tag body) s

/-- SET TRIGGER (R149). -/
def execSetTrigger (p : PortId) (tag : Tag) (body : List Byte) (s : State) : Host.Outcome State Fault Refusal :=
  change (State.arrive p (ReqKind.code .setTrigger) tag body) s

/-- ENABLE TRIGGERS (R150). -/
def execEnableTriggers (p : PortId) (tag : Tag) (body : List Byte) (s : State) : Host.Outcome State Fault Refusal :=
  change (State.arrive p (ReqKind.code .enableTriggers) tag body) s

/-- DISABLE TRIGGERS (R150). -/
def execDisableTriggers (p : PortId) (tag : Tag) (body : List Byte) (s : State) : Host.Outcome State Fault Refusal :=
  change (State.arrive p (ReqKind.code .disableTriggers) tag body) s

/-- FIRE TRIGGERS (R151). -/
def execFireTriggers (p : PortId) (tag : Tag) (body : List Byte) (s : State) : Host.Outcome State Fault Refusal :=
  change (State.arrive p (ReqKind.code .fireTriggers) tag body) s

/-- READ TRIGGER (R152). -/
def execReadTrigger (p : PortId) (tag : Tag) (body : List Byte) (s : State) : Host.Outcome State Fault Refusal :=
  change (State.arrive p (ReqKind.code .readTrigger) tag body) s

/-- CLEAR ERROR (R154). -/
def execClearError (p : PortId) (tag : Tag) (body : List Byte) (s : State) : Host.Outcome State Fault Refusal :=
  change (State.arrive p (ReqKind.code .clearError) tag body) s

/-- SET ERROR POLICY (R154). -/
def execSetErrorPolicy (p : PortId) (tag : Tag) (body : List Byte) (s : State) : Host.Outcome State Fault Refusal :=
  change (State.arrive p (ReqKind.code .setErrorPolicy) tag body) s

/-- READ NOTICES (R166). -/
def execReadNotices (p : PortId) (tag : Tag) (body : List Byte) (s : State) : Host.Outcome State Fault Refusal :=
  change (State.arrive p (ReqKind.code .readNotices) tag body) s

/-- SET NOTICE MASK (R167). -/
def execSetNoticeMask (p : PortId) (tag : Tag) (body : List Byte) (s : State) : Host.Outcome State Fault Refusal :=
  change (State.arrive p (ReqKind.code .setNoticeMask) tag body) s

/-- STAGE STORE (R184). -/
def execStageStore (p : PortId) (tag : Tag) (body : List Byte) (s : State) : Host.Outcome State Fault Refusal :=
  change (State.arrive p (ReqKind.code .stageStore) tag body) s

/-- PROGRAM STORE: it stays in progress until PROGRAMMING_END (R185). -/
def execProgramStore (p : PortId) (tag : Tag) (body : List Byte) (s : State) : Host.Outcome State Fault Refusal :=
  change (State.arrive p (ReqKind.code .programStore) tag body) s

/-- READ STORE (R186). -/
def execReadStore (p : PortId) (tag : Tag) (body : List Byte) (s : State) : Host.Outcome State Fault Refusal :=
  change (State.arrive p (ReqKind.code .readStore) tag body) s

/-- ADMISSION_COMPLETE (R26): the granted admission ends. -/
def execAdmissionComplete (s : State) : Host.Outcome State Fault Refusal := change State.completeAdmission s

/-- CANCEL_COMPLETE (R31): the granted cancel ends. -/
def execCancelComplete (s : State) : Host.Outcome State Fault Refusal := change State.completeCancel s

end Sys2Proof.Machine
end

