-- ==== Sys2Proof/Machine/StartupRows.lean ====
section
/-! DEFINITION. The start-up commands: COLD_RESET, RESET_RELEASE and the ends of the four phases (11.1). -/

namespace Sys2Proof.Machine

namespace State

/-- A line record at cold reset, its pin as it stands (R132, R155; log 11). -/
def coldLine (x : Line) : Line := { Line.reset with rawHigh := x.rawHigh, settled := x.rawHigh }

/-- Cold reset: every block at its cold-reset values; the store's contents and programmed flags, the pins of the general
lines and the commands that wait are what stays (R179, R183, R185; log 3). -/
def coldReset (s : State) : State :=
  { reset with
    pending := s.pending
    lines := { LineBlock.reset with lines := s.lines.lines.map coldLine }
    startup := { Startup.reset with groups := s.startup.groups.map StoreGroup.coldReset } }

/-- A phase begins: the status lines show its code and the console prints it (R179). -/
def enterPhase (p : StartPhase) (s : State) : State := (s.modStartup fun u => { u with phase := p }).print [.phase p.code]

/-- The mask pins do `xs` (R181). -/
def moveMask (xs : List MaskPin) (s : State) : State := s.modStartup fun u => { u with maskPins := u.maskPins ++ xs }

/-- The groups found unusable (R179). -/
def unusableGroups (s : State) : List GroupId :=
  (List.finRange 10).filter fun g => (s.group g).usable == .unusable

/-- The end of the store load phase: the groups are judged, every block takes its items, and the mask shift-in begins
with the load of the external chain (R181, R183). -/
def endStoreLoad (s : State) : State :=
  let fromStore := s.startup.select != 4
  let s := s.modStartup fun u => { u with groups := .ofFn fun g => (u.groups.get g).judge fromStore g }
  let s := s.takeConfiguration
  let s := s.print [.storeLoaded s.startup.select s.unusableGroups]
  (s.enterPhase .maskShift).moveMask [.load, .clockPulse, .shift]

/-- Position `j` is enabled: it exists under the geometry and its mask bit is 0 (R181). -/
def positionEnabled (mask : BitVec 24) (s : State) (j : TileId) : Bool :=
  s.layouts.geometry.isPosition j.val && !mask.getLsbD j.val

/-- The end of the mask shift-in (R131, R181). -/
def endMaskShift (mask : BitVec 24) (s : State) : State :=
  let s := s.modStartup fun u => { u with mask := mask }
  let s := s.moveMask ((List.finRange 24).flatMap fun j => [.read (mask.getLsbD j.val), .clockPulse])
  let s := s.modTiles fun ts => .ofFn fun j =>
    let t := ts.get j
    if s.positionEnabled mask j && t.state == .off then { t with state := .down } else t
  let s := s.print [.positionsEnabled ((List.finRange 24).filter (s.positionEnabled mask)).length]
  s.enterPhase .storeCheck

/-- The end of the frame store check; under select code 6 it has been skipped (R182), and phase 3 has lasted until this
command (DESIGN CHOICE: log 77). -/
def endStoreCheck (failed : BitVec 48) (s : State) : State :=
  if s.startup.select = 6 then
    ((s.modStartup fun u => { u with passed := 48 }).print [.checkSkipped]).enterPhase .applying
  else
    let passed := ((List.finRange 48).filter fun b => !failed.getLsbD b.val).length
    let s := (s.modStore (FrameStore.retireFailed failed)).modStartup fun u => { u with passed := passed }
    (s.print [.buffersPassed passed]).enterPhase .applying

/-- The wall state becomes `w` (R6, R7). -/
def enterWall (w : WallState) (s : State) : State := (s.modWall fun x => { x with state := w }).announceWall none

/-- The start state of phase 4 (R7, R180). When TESTING cannot be entered because E would pass 2^48−1, the wall is
STOPPED and the refusal is printed (R16, R176; log 25). -/
def enterStartState (s : State) : State :=
  if s.startup.passed < 8 then s.enterWall .halted
  else if s.startup.select = 3 then
    let e := epochAt s.wall.clock s.period
    if maxClock < e then (s.enterWall .stopped).print [.refused .range] else s.enterTesting e
  else s.enterWall .stopped

/-- The post of code 1: TAKE LAYOUT 0 at the show clock, SLIP, gate NONE (R180). The clock is read as the post is built
(DESIGN CHOICE: log 60). -/
def startupTake (s : State) : RawPost :=
  { params := some (.takeLayout 0), due := some (.time s.wall.clock),
    tail := some { late := 1, gate := 0, patience := none, onTimeout := none } }

/-- The post of code 2: GO DARK, NEXT with offset 0, SLIP, gate NONE (R180). -/
def startupDark : RawPost :=
  { params := some .goDark, due := some (.next 0),
    tail := some { late := 1, gate := 0, patience := none, onTimeout := none } }

/-- The Start-up Controller presents a post as the CONSOLE claim (R180). -/
def presentStartup (raw : RawPost) (s : State) : State := s.modArbiter fun a => { a with startupClaim := some raw }

/-- The actions of the select code, none of them in HALTED; with none to wait for, start-up ends (R179, R180). -/
def takeStartActions (s : State) : State :=
  if s.wall.state = .halted then s.endStartup
  else if s.startup.select = 1 then s.presentStartup s.startupTake
  else if s.startup.select = 2 then s.startupRun.presentStartup startupDark
  else s.endStartup

/-- The console changes to its configured line rate and the start state is entered (R179). -/
def changeRate (s : State) : State :=
  let s := s.modConsole fun c => { c with rateCode := s.activeRateCode }
  let s := s.modStartup fun u => { u with rateChanged := true }
  s.enterStartState.takeStartActions

end State

/-- COLD_RESET (R179): it is taken at any time. -/
def execColdReset (s : State) : Host.Outcome State Fault Refusal := .next s.coldReset

/-- RESET_RELEASE: the select lines are read and the store load phase begins (R179). It is the end of a held RESET. -/
def execResetRelease (sel : BitVec 3) (s : State) : Host.Outcome State Fault Refusal :=
  .next (if s.resetHeld then
    ((({ s with resetHeld := false } : State).modStartup fun u => { u with select := sel }).enterPhase .storeLoad).settle
  else s)

/-- STORE_LOAD_END (R183): it ends the store load phase. -/
def execStoreLoadEnd (s : State) : Host.Outcome State Fault Refusal :=
  change (fun s => if s.startup.phase = .storeLoad then s.endStoreLoad else s) s

/-- MASK_SHIFT_IN_END (R181): it ends the mask shift-in. -/
def execMaskShiftInEnd (mask : BitVec 24) (s : State) : Host.Outcome State Fault Refusal :=
  change (fun s => if s.startup.phase = .maskShift then s.endMaskShift mask else s) s

/-- FRAME_STORE_CHECK_END (R182): it ends the frame store check. -/
def execFrameStoreCheckEnd (failed : BitVec 48) (s : State) : Host.Outcome State Fault Refusal :=
  change (fun s => if s.startup.phase = .storeCheck then s.endStoreCheck failed else s) s

/-- CONSOLE_RATE_CHANGE (R179): once in phase 4. -/
def execConsoleRateChange (s : State) : Host.Outcome State Fault Refusal :=
  change (fun s => if s.startup.phase = .applying ∧ s.startup.rateChanged = false then s.changeRate else s) s

end Sys2Proof.Machine
end

