-- ==== Sys2Proof/Machine/TileRows.lean ====
section
/-! DEFINITION. The commands of the tile links (chapter 7). -/

namespace Sys2Proof.Machine

namespace State

/-- The link of a DOWN tile comes up (R117). -/
def tileUp (j : TileId) (s : State) : State :=
  if (s.tile j).state = .down then (s.modTile j fun t => { t with linkUp := true }).enterTraining j else s

/-- A hello is taken (R118). While the link is down none can come (log 31). -/
def takeHello (j : TileId) (d : Nat) (s : State) : State :=
  if !(s.tile j).linkUp then s
  else
    let s := s.modTile j fun t => { t with totals := { t.totals with hello := bump t.totals.hello } }
    match (s.tile j).state with
    | .training => s.judgeHello j d
    | .live => (s.leaveLive j).judgeHello j d
    | _ => s

/-- A report is judged (R125, R129; log 31). -/
def takeReport (j : TileId) (n : Nat) (onTime : Bool) (s : State) : State :=
  if !(s.tile j).linkUp then s
  else if s.live j && (s.tile j).awaiting.contains n then
    let s := s.modTile j fun t => { t with awaiting := t.awaiting.filter (· != n) }
    if onTime then
      s.modTile j fun t =>
        { t with missRun := if s.wall.state = .testing then t.missRun else 0
                 totals := { t.totals with onTime := bump t.totals.onTime } }
    else s.countMiss j
  else s.modTile j fun t => { t with totals := { t.totals with ignored := bump t.totals.ignored } }

/-- Bytes come from the tile on its service channel (R130, R177). -/
def takeService (j : TileId) (bytes : List Byte) (s : State) : State :=
  if !(s.tile j).linkUp then s
  else if (s.tile j).wrapped then s.print (bytes.map .tileByte)
  else s.modTile j fun t =>
    { t with totals := { t.totals with serviceDropped := satAdd countMax t.totals.serviceDropped bytes.length } }

/-- The last part of tile `j`'s dispatch has been sent (R122). -/
def completeDispatch (j : TileId) (s : State) : State :=
  match (s.tile j).dispatches with
  | { refresh := _, phase := .sending _ _ } :: _ => s.endDispatch j .complete
  | _ => s

end State

/-- TILE_LINK_UP (R117). -/
def execTileLinkUp (j : TileId) (s : State) : Host.Outcome State Fault Refusal := change (State.tileUp j) s

/-- TILE_LINK_DOWN (R120). -/
def execTileLinkDown (j : TileId) (s : State) : Host.Outcome State Fault Refusal := change (State.tileDown j) s

/-- The type bytes of the messages a tile sends (R171). -/
def tileTypes : List Byte := [0x81, 0x82, 0x83]

/-- TILE_UNKNOWN_MESSAGE (R171): the type byte is none of the tile types, and the link is taken down. -/
def execTileUnknownMessage (j : TileId) (type : Byte) (s : State) : Host.Outcome State Fault Refusal :=
  change (if tileTypes.contains type then id else State.tileDown j) s

/-- HELLO (R118). -/
def execHello (j : TileId) (depth : Byte) (s : State) : Host.Outcome State Fault Refusal :=
  change (State.takeHello j depth.toNat) s

/-- REPORT (R125). -/
def execReport (j : TileId) (n : BitVec 40) (onTime : Bool) (s : State) : Host.Outcome State Fault Refusal :=
  change (State.takeReport j n.toNat onTime) s

/-- SERVICE_BYTES (R130). -/
def execServiceBytes (j : TileId) (bytes : List Byte) (s : State) : Host.Outcome State Fault Refusal :=
  change (State.takeService j bytes) s

/-- DISPATCH_COMPLETE (R122). -/
def execDispatchComplete (j : TileId) (s : State) : Host.Outcome State Fault Refusal :=
  change (State.completeDispatch j) s

end Sys2Proof.Machine
end

