-- ==== Sys2Proof/Machine/Dispatch.lean ====
section
/-! DEFINITION. The meaning of each command, one arm for each row of spec/opcode_table.json. -/

namespace Sys2Proof.Machine

def exec (i : Instr) (s : State) : Host.Outcome State Fault Refusal :=
  match i with
  | .coldReset => Sys2Proof.Machine.execColdReset s
  | .resetRelease sel => Sys2Proof.Machine.execResetRelease sel s
  | .storeLoadEnd => Sys2Proof.Machine.execStoreLoadEnd s
  | .maskShiftInEnd mask => Sys2Proof.Machine.execMaskShiftInEnd mask s
  | .frameStoreCheckEnd failed => Sys2Proof.Machine.execFrameStoreCheckEnd failed s
  | .consoleRateChange => Sys2Proof.Machine.execConsoleRateChange s
  | .showTick => Sys2Proof.Machine.execShowTick s
  | .boundary early => Sys2Proof.Machine.execBoundary early s
  | .testBoundary early => Sys2Proof.Machine.execTestBoundary early s
  | .pick st => Sys2Proof.Machine.execPick st s
  | .release buf fill => Sys2Proof.Machine.execRelease buf fill s
  | .framePacket p stream gen number width height => Sys2Proof.Machine.execFramePacket p stream gen number width height s
  | .frameArrivalEnd p picture => Sys2Proof.Machine.execFrameArrivalEnd p picture s
  | .unframeableMessage p type => Sys2Proof.Machine.execUnframeableMessage p type s
  | .linkUp p => Sys2Proof.Machine.execLinkUp p s
  | .linkClosed p => Sys2Proof.Machine.execLinkClosed p s
  | .linkLost p => Sys2Proof.Machine.execLinkLost p s
  | .readinessMessage p => Sys2Proof.Machine.execReadinessMessage p s
  | .readClock p kind tag body => Sys2Proof.Machine.execReadClock p kind tag body s
  | .setClock p tag body => Sys2Proof.Machine.execSetClock p tag body s
  | .configureWall p tag body => Sys2Proof.Machine.execConfigureWall p tag body s
  | .run p tag body => Sys2Proof.Machine.execRun p tag body s
  | .stop p tag body => Sys2Proof.Machine.execStop p tag body s
  | .wipe p tag body => Sys2Proof.Machine.execWipe p tag body s
  | .postCue p tag body => Sys2Proof.Machine.execPostCue p tag body s
  | .admissionComplete => Sys2Proof.Machine.execAdmissionComplete s
  | .cancelCue p tag body => Sys2Proof.Machine.execCancelCue p tag body s
  | .cancelComplete => Sys2Proof.Machine.execCancelComplete s
  | .cueStatus p tag body => Sys2Proof.Machine.execCueStatus p tag body s
  | .listCues p tag body => Sys2Proof.Machine.execListCues p tag body s
  | .releaseHold p tag body => Sys2Proof.Machine.execReleaseHold p tag body s
  | .holdLapse => Sys2Proof.Machine.execHoldLapse s
  | .defineLayout p tag body => Sys2Proof.Machine.execDefineLayout p tag body s
  | .readLayout p tag body => Sys2Proof.Machine.execReadLayout p tag body s
  | .readMap p tag body => Sys2Proof.Machine.execReadMap p tag body s
  | .readAdvert p tag body => Sys2Proof.Machine.execReadAdvert p tag body s
  | .configureStream p tag body => Sys2Proof.Machine.execConfigureStream p tag body s
  | .readStream p tag body => Sys2Proof.Machine.execReadStream p tag body s
  | .readIntegrity p tag body => Sys2Proof.Machine.execReadIntegrity p tag body s
  | .integrityFailure j => Sys2Proof.Machine.execIntegrityFailure j s
  | .readPlan p tag body => Sys2Proof.Machine.execReadPlan p tag body s
  | .dispatchComplete j => Sys2Proof.Machine.execDispatchComplete j s
  | .tileLinkUp j => Sys2Proof.Machine.execTileLinkUp j s
  | .tileLinkDown j => Sys2Proof.Machine.execTileLinkDown j s
  | .tileUnknownMessage j type => Sys2Proof.Machine.execTileUnknownMessage j type s
  | .hello j depth => Sys2Proof.Machine.execHello j depth s
  | .trainingTimeout j => Sys2Proof.Machine.execTrainingTimeout j s
  | .report j refresh onTime => Sys2Proof.Machine.execReport j refresh onTime s
  | .serviceBytes j bytes => Sys2Proof.Machine.execServiceBytes j bytes s
  | .reviveTile p tag body => Sys2Proof.Machine.execReviveTile p tag body s
  | .readTile p tag body => Sys2Proof.Machine.execReadTile p tag body s
  | .rawLevelChange l high => Sys2Proof.Machine.execRawLevelChange l high s
  | .debounceEnd l => Sys2Proof.Machine.execDebounceEnd l s
  | .pulseEnd l => Sys2Proof.Machine.execPulseEnd l s
  | .setLine p tag body => Sys2Proof.Machine.execSetLine p tag body s
  | .readLines p tag body => Sys2Proof.Machine.execReadLines p tag body s
  | .startTimer p tag body => Sys2Proof.Machine.execStartTimer p tag body s
  | .stopTimer p tag body => Sys2Proof.Machine.execStopTimer p tag body s
  | .timerExpiry t => Sys2Proof.Machine.execTimerExpiry t s
  | .setTrigger p tag body => Sys2Proof.Machine.execSetTrigger p tag body s
  | .enableTriggers p tag body => Sys2Proof.Machine.execEnableTriggers p tag body s
  | .disableTriggers p tag body => Sys2Proof.Machine.execDisableTriggers p tag body s
  | .fireTriggers p tag body => Sys2Proof.Machine.execFireTriggers p tag body s
  | .readTrigger p tag body => Sys2Proof.Machine.execReadTrigger p tag body s
  | .clearError p tag body => Sys2Proof.Machine.execClearError p tag body s
  | .setErrorPolicy p tag body => Sys2Proof.Machine.execSetErrorPolicy p tag body s
  | .readNotices p tag body => Sys2Proof.Machine.execReadNotices p tag body s
  | .setNoticeMask p tag body => Sys2Proof.Machine.execSetNoticeMask p tag body s
  | .stageStore p tag body => Sys2Proof.Machine.execStageStore p tag body s
  | .programStore p tag body => Sys2Proof.Machine.execProgramStore p tag body s
  | .programmingEnd => Sys2Proof.Machine.execProgrammingEnd s
  | .readStore p tag body => Sys2Proof.Machine.execReadStore p tag body s
  | .consoleCharacter c => Sys2Proof.Machine.execConsoleCharacter c s
  | .help => Sys2Proof.Machine.execHelp s
  | .map => Sys2Proof.Machine.execMap s
  | .cues => Sys2Proof.Machine.execCues s
  | .description => Sys2Proof.Machine.execDescription s
  | .layout number => Sys2Proof.Machine.execLayout number s
  | .consoleRun => Sys2Proof.Machine.execConsoleRun s
  | .consoleStop => Sys2Proof.Machine.execConsoleStop s
  | .test => Sys2Proof.Machine.execTest s
  | .testEnd => Sys2Proof.Machine.execTestEnd s
  | .wrap number => Sys2Proof.Machine.execWrap number s
  | .wrapEnd => Sys2Proof.Machine.execWrapEnd s

end Sys2Proof.Machine
end

