-- ==== Sys2Proof/Safety.lean ====
section
/-! DEFINITION. What the statements call a good state: outputs that say what the state says, and every bounded store
within its bound. -/

namespace Sys2Proof.Machine

namespace State

/-- Every output shows what its rule computes from the state: readiness (R78), the notice lines (R165), the driven levels
(R133) and the status lines (R179, R187). -/
def Settled (s : State) : Prop := s.pins = s.outputs

/-- Nothing is left to settle: the outputs are true and the arbiter, when it is free, finds no claim it can grant (R23).
Every command leaves the part so. -/
structure Quiet (s : State) : Prop where
  outputs : s.Settled
  granted : s.arbitrate = s

/-- Every bounded store is within the bound its rule gives: the show clock (R1), the cue list (R21), the cue history
(R22) and the request queues (R159). -/
structure Bounded (s : State) : Prop where
  clock : s.wall.clock ≤ maxClock
  cues : s.cues.list.length ≤ 64
  history : s.cues.history.length ≤ 32
  queueA : s.ports.a.queue.length ≤ 4
  queueB : s.ports.b.queue.length ≤ 4

/-- What every tile record keeps. A LIVE tile has a depth within the horizon (R115); a TRAINING tile, and one FAULTED
SILENT, has neither a hello depth nor a depth (R117, R119); and until the mask shift-in has ended every tile is OFF
(R131). -/
structure TilesFit (s : State) : Prop where
  depth : ∀ j, (s.tile j).state = .live → ∃ d, (s.tile j).depth = some d ∧ d ≤ s.wall.horizon
  fresh : ∀ j, (s.tile j).state = .training ∨ ((s.tile j).state = .faulted ∧ (s.tile j).reason = some .silent) →
    (s.tile j).helloDepth = none ∧ (s.tile j).depth = none
  off : s.resetHeld = true ∨ s.startup.phase = .reset ∨ s.startup.phase = .storeLoad ∨ s.startup.phase = .maskShift →
    ∀ j, (s.tile j).state = .off

/-- The wall is configured as its rules allow: the rate one of the four and the horizon 0..6 (R4), the wall no larger
than 24 positions (R43), every trim 0..255 (R108), every stream's limit H + 2..16 (R75, R78), and the common pulse width
one of the eight (R132). -/
structure ConfigLegal (s : State) : Prop where
  rate : s.wall.rate ∈ [50, 60, 100, 120]
  horizon : s.wall.horizon ≤ 6
  cols : 1 ≤ s.layouts.geometry.cols ∧ s.layouts.geometry.cols ≤ 8
  rows : 1 ≤ s.layouts.geometry.rows ∧ s.layouts.geometry.rows ≤ 6
  positions : s.layouts.geometry.cols * s.layouts.geometry.rows ≤ 24
  trims : ∀ j, s.plan.trims.get j ≤ 255
  limits : ∀ st, s.wall.horizon + 2 ≤ (s.stream st).config.limit ∧ (s.stream st).config.limit ≤ 16
  pulse : s.lines.pulseWidth ∈ [30, 60, 120, 300, 600, 1200, 3000, 6000]

/-- What the console's mode and the wall keep of each other. Until phase 4 enters the start state the wall is STARTING
(R7). While it is TESTING the console is in TEST, or on its way there from a wait or a wrap (R176; log 41), and mode TEST
is kept for TESTING alone. The console waits while a post of its own, one at a time, is at the arbiter (R175). A wrap has
a target, and no tile is wrapped but the target of a wrap, so one at a time (R130, R177). -/
structure ConsoleFits (s : State) : Prop where
  starting : s.resetHeld = true ∨ s.startup.phase = .reset ∨ s.startup.phase = .storeLoad ∨ s.startup.phase = .maskShift ∨
    s.startup.phase = .storeCheck ∨ (s.startup.phase = .applying ∧ s.startup.rateChanged = false) → s.wall.state = .starting
  testing : s.wall.state = .testing → s.console.mode ≠ .prompt
  test : s.console.mode = .test → s.wall.state = .testing
  waiting : s.arbiter.typedClaim ≠ none ∨ (∃ g, s.arbiter.granted = some g ∧ g.claimant = .typed) →
    s.console.mode = .waiting
  once : s.arbiter.typedClaim ≠ none → ∀ g, s.arbiter.granted = some g → g.claimant ≠ .typed
  wrap : s.console.mode = .wrap → s.console.target ≠ none
  wrapped : ∀ j, (s.tile j).wrapped = true → s.console.mode = .wrap ∧ s.console.target = some j

/-- The buffers and fill numbers that something names: the OPEN plan records, and the dispatches that carry a record
(R76). -/
def namings (s : State) : List (BufId × Nat) :=
  s.plan.entries.flatMap (PlanEntry.owed fun _ => true) ++
    (List.finRange 24).flatMap fun j => (s.tile j).dispatches.flatMap Dispatch.owed

/-- The references of buffer `b`: one for each release in flight, each OPEN record and each dispatch that names its present
fill, and one for each stream whose last-picked frame it is (R76, R86). -/
def owed (s : State) (b : BufId) : Nat :=
  (s.store.releases ++ s.namings).count (b, (s.buffer b).fill) +
    ((List.finRange 8).filter fun st => (s.stream st).lastPicked == some b).length

/-- What the buffers, queues and references keep. Every QUEUED buffer stands in one place of one queue, its own
stream's; the FILLING ones are the ports' arrivals; a FREE one holds no frame, and every other does but one that the
frame store check retired; a HELD one's references are those that name it, and a buffer in any other state has none
(R76, R77). A bad buffer is HELD or RETIRED, and a cause is present while RETIRED (R76, R77). Queued plus held never
exceeds the limit (R78). Until the frame store check has ended every buffer is FREE, and until start-up ends the links
are HELD (R156, R182). -/
structure StoreSound (s : State) : Prop where
  queue : ∀ st, (s.store.queue st).Nodup ∧
    ∀ b ∈ s.store.queue st, (s.buffer b).state = .queued ∧ ∃ f, (s.buffer b).frame = some f ∧ f.stream = st
  queued : ∀ b, (s.buffer b).state = .queued → ∃ st, b ∈ s.store.queue st
  filling : ∀ b, (s.buffer b).state = .filling ↔ ∃ p, s.store.arrivals.get p = some b
  arriving : ∀ b, s.store.arrivals.a = some b → s.store.arrivals.b ≠ some b
  frame : ∀ b, ((s.buffer b).state = .free → (s.buffer b).frame = none) ∧
    ((s.buffer b).state = .filling ∨ (s.buffer b).state = .queued ∨ (s.buffer b).state = .held ∨
      (s.buffer b).cause = some .integrity → (s.buffer b).frame ≠ none)
  lastPicked : ∀ st b, (s.stream st).lastPicked = some b →
    (s.buffer b).state = .held ∧ ∃ f, (s.buffer b).frame = some f ∧ f.stream = st
  bad : ∀ b, (s.buffer b).bad = true → (s.buffer b).state = .held ∨ (s.buffer b).state = .retired
  cause : ∀ b, (s.buffer b).cause.isSome = true ↔ (s.buffer b).state = .retired
  held : ∀ b, (s.buffer b).state = .held → 0 < (s.buffer b).refs
  refs : ∀ b, (s.buffer b).refs = if (s.buffer b).state = .held then s.owed b else 0
  names : ∀ x ∈ s.namings, (s.buffer x.1).state = .held ∧ (s.buffer x.1).fill = x.2
  fresh : ∀ b, (s.buffer b).state = .filling ∨ (s.buffer b).state = .queued → (b, (s.buffer b).fill) ∉ s.store.releases
  limit : ∀ st, s.store.load st ≤ (s.stream st).config.limit
  early : s.resetHeld = true ∨ s.startup.phase = .reset ∨ s.startup.phase = .storeLoad ∨ s.startup.phase = .maskShift ∨
    s.startup.phase = .storeCheck → ∀ b, (s.buffer b).state = .free
  links : s.resetHeld = true ∨ s.startup.phase ≠ .ended → ∀ p, (s.port p).link = .held

/-- What the wall plan and the dispatches keep. The entries are for consecutive refreshes up to K, none of them behind the
newest boundary, never more than H + 1 (R103, R105); K is H past the newest boundary (R95); outside a run there are none
(R111). An entry is complete when no pick of it is unanswered, no record of it is TAKEN before, and a record waits for its
pick alone (R101 to R103). Each position has one record, and an OPEN one waits for a LIVE tile that takes it at the
boundary of n − D or has its dispatch waiting (R104, R121). A tile's dispatches are for refreshes before its next one, and
only a LIVE tile of a running or testing wall has any (R121 to R123). -/
structure PlanSound (s : State) : Prop where
  idle : s.wallRuns = false → s.plan.entries = [] ∧ s.plan.newest = none
  newest : s.wallRuns = true → s.plan.newest =
    match s.wall.newest with
    | none => if s.wall.horizon = 0 then none else some (s.wall.horizon - 1)
    | some m => some (m + s.wall.horizon)
  consecutive : ∃ first, s.plan.entries.map (·.refresh) = List.range' first s.plan.entries.length ∧
    (s.plan.entries ≠ [] → s.plan.newest = some (first + s.plan.entries.length - 1))
  recent : ∀ e ∈ s.plan.entries, ∀ m, s.wall.newest = some m → m ≤ e.refresh
  bound : s.plan.entries.length ≤ s.wall.horizon + 1
  complete : ∀ e ∈ s.plan.entries, e.complete = true ↔ e.unanswered = []
  taken : ∀ e ∈ s.plan.entries, ∀ r ∈ e.records, r.disposition = .taken → e.complete = true
  waiting : ∀ e ∈ s.plan.entries, ∀ r ∈ e.records, r.buffer = .awaiting ↔ ∃ st ∈ e.unanswered, r.source = .stream st
  positions : ∀ e ∈ s.plan.entries, (e.records.map (·.pos)).Nodup
  opened : ∀ e ∈ s.plan.entries, ∀ r ∈ e.records, r.disposition = .opened → (s.tile r.pos).state = .live ∧
    ∃ d f, (s.tile r.pos).depth = some d ∧ (s.tile r.pos).first = some f ∧ f ≤ e.refresh ∧
      (s.nextBoundary + d ≤ e.refresh ∨
        ∃ x ∈ (s.tile r.pos).dispatches, x.refresh = e.refresh ∧ x.phase = .awaitingEntry)
  picks : ∀ st n gen target tiles, Handoff.pick n gen target tiles ∈ s.plan.handoffs.get st →
    (∃ k, s.plan.newest = some k ∧ n ≤ k) ∧ s.plan.openFor n st ≤ tiles
  dispatches : ∀ j, (s.tile j).state ≠ .live ∨ (s.wallRuns = false ∧ s.wall.state ≠ .testing) → (s.tile j).dispatches = []
  order : ∀ j d, (s.tile j).depth = some d → ((s.tile j).dispatches.map (·.refresh)).Nodup ∧
    ∀ x ∈ (s.tile j).dispatches, x.refresh < s.nextBoundary + d
  planned : s.wallRuns = true → ∀ j, (s.tile j).state = .live →
    ∃ f, (s.tile j).first = some f ∧ f ≤ (s.plan.newest.map (· + 1)).getD 0

/-- No release in flight carries the fill number that the next fill of its buffer takes. A fill number returns after 2^32
fills (R76), and a release outlives none of them. -/
def NoneAhead (s : State) : Prop :=
  ∀ x ∈ s.store.releases, (s.buffer x.1).state = .free → x.2 ≠ ((s.buffer x.1).fill + 1) % 2 ^ 32

/-- A programming in progress names a group that is not programmed (R185). -/
def StoreOnce (s : State) : Prop := ∀ x, s.startup.programming = some x → (s.group x.group).programmed = false

/-- RESET is released, and nothing is left to settle: the part between two commands. -/
structure AtRest (s : State) : Prop where
  released : s.resetHeld = false
  quiet : s.Quiet

/-- No enabled trigger watches event `e`, so that it fires none. -/
def Unwatched (e : Stimulus) (s : State) : Prop :=
  ∀ k, (s.trigger k).enabled = true →
    e.evaluates (s.trigger k).defn.condition = false ∧ e.matchesEdge (s.trigger k).defn.condition = false

/-- No trigger is enabled. -/
def NoTriggers (s : State) : Prop := ∀ k, (s.trigger k).enabled = false

/-- Port `p` takes a request as it arrives: RESET is released, the link is UP and no frame packet arrives on it (R170),
nothing waits and nothing is in progress (R159). -/
structure ReadyFor (s : State) (p : PortId) : Prop where
  released : s.resetHeld = false
  up : s.linkUp p = true
  clear : s.store.arrivals.get p = none
  empty : (s.port p).queue = []
  idle : (s.port p).inProgress = none

end State

/-- A body the port accepts at arrival (R161). -/
def Fits (body : List Byte) : Prop := body.length ≤ 4096

/-! ### What a command changes -/

/-- The parts of the state that a frame names. -/
inductive Block where
  | pending | resetHeld | wall | cues | arbiter | layouts | adverts | plan | store | tiles | triggers | lines | ports
  | console | startup | pins
  deriving DecidableEq, Repr

/-- Block `b` is the same in both states. -/
def Block.Same (s t : State) : Block → Prop
  | .pending => t.pending = s.pending
  | .resetHeld => t.resetHeld = s.resetHeld
  | .wall => t.wall = s.wall
  | .cues => t.cues = s.cues
  | .arbiter => t.arbiter = s.arbiter
  | .layouts => t.layouts = s.layouts
  | .adverts => t.adverts = s.adverts
  | .plan => t.plan = s.plan
  | .store => t.store = s.store
  | .tiles => t.tiles = s.tiles
  | .triggers => t.triggers = s.triggers
  | .lines => t.lines = s.lines
  | .ports => t.ports = s.ports
  | .console => t.console = s.console
  | .startup => t.startup = s.startup
  | .pins => t.pins = s.pins

/-- Every block outside `bs` is the same in both states: the frame of a command that changes only `bs`. -/
def SameBut (bs : List Block) (s t : State) : Prop := ∀ b, b ∉ bs → b.Same s t

/-- From `s` to `t` port `p` has made the response to a request of kind `k`, and after it at most a readiness message that
waits (R160, R170). -/
def Replied (p : PortId) (k : ReqKind) (tag : Tag) (code : Code) (body : List Byte) (s t : State) : Prop :=
  ∃ rest, (t.port p).outbox = (s.port p).outbox ++ .response k.code tag code body :: rest ∧
    (rest = [] ∨ rest = [.readinessDue])

/-- `s` with the hold renewed by a request of port `p` (R36) and the response to it made: all that a request does when it
changes nothing else. -/
def State.replied (p : PortId) (k : ReqKind) (tag : Tag) (code : Code) (body : List Byte) (s : State) : State :=
  (s.renewHold p).modPort p fun q => { q with outbox := q.outbox ++ [.response k.code tag code body] }

/-- At both ports the player's side is kept: link, last down cause, request queue, notice mask and stray count. What may
change is the notices (R164), a claim that is granted (R23), and the messages made. -/
def PortsKeep (s t : State) : Prop :=
  ∀ p, (t.port p).link = (s.port p).link ∧ (t.port p).cause = (s.port p).cause ∧ (t.port p).queue = (s.port p).queue ∧
    (t.port p).mask = (s.port p).mask ∧ (t.port p).stray = (s.port p).stray

/-- A body the port accepts arrives at a port that takes it at once, in a part with nothing left to settle. -/
structure State.Takes (s : State) (p : PortId) (body : List Byte) : Prop where
  ready : s.ReadyFor p
  quiet : s.Quiet
  fits : Fits body

/-- A request of port `p` has been taken and answered: the response is made, nothing is in progress at the port (R159),
the hold is renewed when the port holds it (R36), and the player's side of the ports is kept. -/
structure Served (p : PortId) (k : ReqKind) (tag : Tag) (code : Code) (body : List Byte) (s t : State) : Prop where
  reply : Replied p k tag code body s t
  idle : (t.port p).inProgress = none
  ports : PortsKeep s t

/-- The record of a trigger after an evaluation of its comparison that fires nothing (R143): the last value is the
comparison of the mark with `value`. -/
def Trigger.evaluated (value : Option Nat) (t : Trigger) : Trigger :=
  { t with last := value.any fun v => t.defn.mark.any fun m => decide (m ≤ v) }

/-- The command that is the arrival of a request of kind `k` (9.5). -/
def ReqKind.command (k : ReqKind) (p : PortId) (tag : Tag) (body : List Byte) : Instr :=
  match k with
  | .readClock => .readClock p 0x01 tag body
  | .setClock => .setClock p tag body
  | .configureWall => .configureWall p tag body
  | .run => .run p tag body
  | .stop => .stop p tag body
  | .wipe => .wipe p tag body
  | .postCue => .postCue p tag body
  | .cancelCue => .cancelCue p tag body
  | .cueStatus => .cueStatus p tag body
  | .listCues => .listCues p tag body
  | .releaseHold => .releaseHold p tag body
  | .defineLayout => .defineLayout p tag body
  | .readLayout => .readLayout p tag body
  | .readMap => .readMap p tag body
  | .readAdvert => .readAdvert p tag body
  | .configureStream => .configureStream p tag body
  | .readStream => .readStream p tag body
  | .readIntegrity => .readIntegrity p tag body
  | .readPlan => .readPlan p tag body
  | .reviveTile => .reviveTile p tag body
  | .readTile => .readTile p tag body
  | .setLine => .setLine p tag body
  | .readLines => .readLines p tag body
  | .startTimer => .startTimer p tag body
  | .stopTimer => .stopTimer p tag body
  | .setTrigger => .setTrigger p tag body
  | .enableTriggers => .enableTriggers p tag body
  | .disableTriggers => .disableTriggers p tag body
  | .fireTriggers => .fireTriggers p tag body
  | .readTrigger => .readTrigger p tag body
  | .clearError => .clearError p tag body
  | .setErrorPolicy => .setErrorPolicy p tag body
  | .readNotices => .readNotices p tag body
  | .setNoticeMask => .setNoticeMask p tag body
  | .stageStore => .stageStore p tag body
  | .programStore => .programStore p tag body
  | .readStore => .readStore p tag body

/-- The wall states in which a request that is answered at its taking is not refused STATE for the wall state (R2, R5, R9,
R14, R15, R47, R75, R149 to R151, R154; STOPPED, RUNNING, DARK and TESTING for every other). -/
def ReqKind.takenIn (k : ReqKind) (w : WallState) : Bool :=
  match k with
  | .setClock | .configureWall | .run | .configureStream => w == .stopped
  | .stop => w == .running || w == .dark
  | .wipe | .defineLayout | .setTrigger | .enableTriggers | .disableTriggers | .fireTriggers | .setErrorPolicy =>
    w == .stopped || w == .running || w == .dark
  | _ => w == .stopped || w == .running || w == .dark || w == .testing

/-- The outcome `o` of the granted post of claimant `c` has reached it (R29, R147, R175; log 41 for a console that answers
in TESTING). The Start-up Controller's post has a statement of its own. -/
def Delivered (c : ClaimFrom) (answered : Bool) (o : PostOutcome) (s t : State) : Prop :=
  match c with
  | .port p =>
    ∀ x, answered = true → s.linkUp p = true → (s.port p).inProgress = some x →
      Replied p x.request.kind x.request.tag o.code o.body s t ∧ (t.port p).inProgress = none
  | .typed =>
    let line : ConsoleOut := match o with
      | .inserted ramp gate slipped id _ due => .posted (ramp || gate) id due slipped
      | _ => .refused o.code
    t.console = if s.wall.state = .testing then
        { s.console with
          mode := .test, passes := 0, errors := 0, inPass := 0, printed := s.console.printed ++ [line, .testing] }
      else { s.console with mode := .prompt, printed := s.console.printed ++ [line, .prompt] }
  | .trigger k =>
    t.triggers.posts = s.triggers.posts.tail ∧
      t.trigger k = { s.trigger k with lastPost := some o, postPending := false }
  | .startup => True

/-- No request waits behind the one a port claimant is answered for, and the claimant is not the Start-up Controller, so
that the end of the operation sets nothing else going. -/
def Alone (c : ClaimFrom) (s : State) : Prop :=
  match c with
  | .port p => (s.port p).queue = []
  | .startup => False
  | _ => True

/-- No fault and no refusal: the outcome is a next state. -/
def Completes (o : Host.Outcome State Fault Refusal) : Prop := ∃ t, o = .next t

end Sys2Proof.Machine
end

