-- ==== Sys2Proof/WellFormed.lean ====
section
/-! DEFINITION. Which commands are well formed: the operands an event of the manual can carry. The meanings are total;
this check says which terms stand for something a link, a wire or the installer can do. -/

namespace Sys2Proof

/-- A header states the body length in two bytes (R170), so a body has at most 65535. -/
def bodyFits (body : List Byte) : Bool := body.length < 65536

/-- The kind bytes of the request index (R161, 9.5). -/
def requestKinds : List Byte :=
  [0x01, 0x02, 0x03, 0x04, 0x05, 0x06, 0x10, 0x11, 0x12, 0x13, 0x14, 0x18, 0x19, 0x1A, 0x20, 0x28, 0x29, 0x2A, 0x30,
   0x38, 0x39, 0x40, 0x41, 0x42, 0x43, 0x44, 0x45, 0x46, 0x47, 0x48, 0x49, 0x4A, 0x50, 0x51, 0x58, 0x59, 0x5A]

namespace Instr

/-- The command is one an event of the manual can make. -/
def wellFormed : Instr → Bool
  | coldReset | resetRelease _ | storeLoadEnd | maskShiftInEnd _ | frameStoreCheckEnd _ | consoleRateChange
  | showTick | boundary _ | testBoundary _ | pick _ => true
  -- a fill number is 0..2^32−1 (R76)
  | release _ fill => fill < 2 ^ 32
  | framePacket _ _ _ _ _ _ => true
  -- a picture is whole pixels of 3 bytes (R170)
  | frameArrivalEnd _ picture => picture.length % 3 == 0
  -- a message that can be framed is none (R170)
  | unframeableMessage _ type => !([0x01, 0x02] : List Byte).contains type
  | linkUp _ | linkClosed _ | linkLost _ | readinessMessage _ => true
  -- READ CLOCK's own kind, or one that is in no request index (R161)
  | readClock _ kind _ body => (kind == 0x01 || !requestKinds.contains kind) && bodyFits body
  | setClock _ _ body | configureWall _ _ body | run _ _ body | stop _ _ body | wipe _ _ body | postCue _ _ body
  | cancelCue _ _ body | cueStatus _ _ body | listCues _ _ body | releaseHold _ _ body | defineLayout _ _ body
  | readLayout _ _ body | readMap _ _ body | readAdvert _ _ body | configureStream _ _ body | readStream _ _ body
  | readIntegrity _ _ body | readPlan _ _ body | reviveTile _ _ body | readTile _ _ body | setLine _ _ body
  | readLines _ _ body | startTimer _ _ body | stopTimer _ _ body | setTrigger _ _ body | enableTriggers _ _ body
  | disableTriggers _ _ body | fireTriggers _ _ body | readTrigger _ _ body | clearError _ _ body
  | setErrorPolicy _ _ body | readNotices _ _ body | setNoticeMask _ _ body | stageStore _ _ body
  | programStore _ _ body | readStore _ _ body => bodyFits body
  | admissionComplete | cancelComplete | holdLapse | integrityFailure _ | dispatchComplete _ | tileLinkUp _
  | tileLinkDown _ => true
  -- the three tile message types are known (R171)
  | tileUnknownMessage _ type => !([0x81, 0x82, 0x83] : List Byte).contains type
  | hello _ _ | trainingTimeout _ | report _ _ _ => true
  -- a service message carries 1..255 bytes (R171)
  | serviceBytes _ bytes => 0 < bytes.length && bytes.length < 256
  | rawLevelChange _ _ | debounceEnd _ | pulseEnd _ | timerExpiry _ | programmingEnd | consoleCharacter _ | help | map
  | cues | description | consoleRun | consoleStop | test | testEnd | wrapEnd => true
  -- "LAYOUT " or "WRAP " and at most 28 characters on a line: at most 26 digits (R172, R173)
  | layout number | wrap number => number < 10 ^ 26

end Instr

end Sys2Proof
end

