-- ==== Sys2Proof/Certificates/Slice0/Obligations.lean ====
section
/-! DEFINITION. The statements for the provers. A docstring names the log entry where a clause rests on a choice of the
model and not on the words of a rule. Where a statement writes out the bytes of a body, what R169 does not settle is the
choice of log 15. -/

open Sys2Proof Sys2Proof.Machine

/-! ### The queue of commands, reset, and what every step keeps -/

/-- A step takes the command at the front of the queue and runs it with the rest still waiting; with none waiting the
block idles (log 1: the model's choice). Every command completes in every state: the part has no condition in which it
stops. -/
def Obligations.StepTakesTheFrontCommandAndCompletes : Prop :=
  ((∀ (s : State) (c : Instr) (rest : List Instr), s.pending = c :: rest → step s = exec c { s with pending := rest }) ∧
   ∀ s : State, s.pending = [] → step s = .next s) ∧
  (∀ (c : Instr) (s : State), Completes (exec c s))

/-- The values every block holds at cold reset (the tables of state after each reset of the chapters). What every step
keeps holds of the machine right after reset. -/
def Obligations.ResetHoldsTheColdResetValues : Prop :=
  (let s := State.reset
   s.wall = { clock := 0, rate := 60, horizon := 2, epoch := none, state := .starting, newest := none } ∧
   s.cues.list = [] ∧ s.cues.history = [] ∧ s.cues.nextId = 1 ∧ s.cues.nextSeq = 1 ∧ s.cues.hold = none ∧
   (∀ st, s.cues.pendingGen.get st = none) ∧
   s.arbiter.granted = none ∧ s.arbiter.low = [.console, .trigger] ∧
   s.arbiter.high = [.requester (.port .a), .requester (.port .b), .lowGroup] ∧
   (∀ l, s.layouts.table.get l = []) ∧ (∀ j, s.layouts.map.get j = { source := .black, x := 0, y := 0, clamped := false }) ∧
   s.layouts.lastTake = none ∧ (∀ st, s.adverts.get st = none) ∧
   s.plan.newest = none ∧ s.plan.entries = [] ∧ s.plan.ramp = none ∧ s.plan.level = 255 ∧
   (∀ b, (s.buffer b).state = .free ∧ (s.buffer b).refs = 0 ∧ (s.buffer b).fill = 0 ∧ (s.buffer b).bad = false) ∧
   (∀ st, (s.stream st).current = [] ∧ (s.stream st).pending = [] ∧ (s.stream st).currentGen = none ∧
     (s.stream st).lastPicked = none ∧ (s.stream st).floor = none ∧ (s.stream st).starving = true) ∧
   s.store.capture = none ∧ s.store.overflow = false ∧ s.store.failures = 0 ∧
   (∀ j, (s.tile j).state = .off ∧ (s.tile j).dispatches = [] ∧ (s.tile j).missRun = 0 ∧ (s.tile j).wrapped = false) ∧
   (∀ k, (s.trigger k).enabled = false ∧ (s.trigger k).defn.condition = .none ∧ (s.trigger k).fires = 0) ∧
   (∀ i, (s.triggers.timers.get i).running = false) ∧ s.triggers.error.flag = false ∧
   s.triggers.disableOnError = false ∧ s.triggers.posts = [] ∧
   s.lines.dark = false ∧ s.lines.schedule = [] ∧
   (∀ p, (s.port p).link = .held ∧ (s.port p).queue = [] ∧ (s.port p).inProgress = none ∧ (s.port p).notices = 0 ∧
     (s.port p).mask = 0xFF ∧ (s.port p).stray = 0) ∧
   s.console.line = [] ∧ s.console.mode = .prompt ∧ s.console.target = none ∧ s.console.rateCode = 0 ∧
   s.startup.programming = none ∧ s.pins.status = 0) ∧
  (State.reset.Quiet ∧ State.reset.Bounded ∧ State.reset.TilesFit ∧ State.reset.ConfigLegal ∧ State.reset.StoreOnce ∧
   State.reset.ConsoleFits ∧ State.reset.StoreSound ∧ State.reset.PlanSound ∧ State.reset.NoneAhead)

/-- After every step the outputs show what their rules compute from the state (readiness, notice lines, driven levels,
status lines), and the arbiter, when it is free, finds no claim it can grant. -/
def Obligations.StepKeepsOutputsTrueAndGrantsClaims : Prop :=
  ∀ s t : State, s.Quiet → step s = .next t → t.Quiet

/-- Every step keeps the show clock, the cue list, the cue history and the request queues within their bounds. Every
step keeps the frame store and the wall plan sound: queued plus held buffers never exceed a stream's limit, every
buffer has the state, the place and the references that go with it, and the plan's entries are for consecutive
refreshes up to K, each record OPEN for a LIVE tile that has still to take it. The premises on the tiles and the
console are kept by every step too (StepKeepsTilesAndConfigurationLegal); `NoneAhead` leaves out only the return of a
fill number after 2^32 fills. -/
def Obligations.StepKeepsEveryStoreWithinItsBound : Prop :=
  (∀ s t : State, s.Bounded → step s = .next t → t.Bounded) ∧
  ∀ s t : State, s.TilesFit → s.ConsoleFits → s.StoreSound → s.PlanSound → s.NoneAhead → step s = .next t →
    t.StoreSound ∧ t.PlanSound

/-- Every step keeps a LIVE tile's depth within the horizon, a TRAINING tile and one FAULTED SILENT without a depth,
and every tile OFF until the mask shift-in has ended. Every step keeps the configuration within the ranges its rules
allow; every stream's limit is never less than H + 2. Every step keeps the console and the wall in agreement: in
TESTING the console is in TEST or on its way there (log 41), so that Ctrl-C can end it, and one tile at a time is
wrapped, the target of mode WRAP. -/
def Obligations.StepKeepsTilesAndConfigurationLegal : Prop :=
  (∀ s t : State, s.TilesFit → step s = .next t → t.TilesFit) ∧
  (∀ s t : State, s.ConfigLegal → step s = .next t → t.ConfigLegal) ∧
  ∀ s t : State, s.ConsoleFits → step s = .next t → t.ConsoleFits

/-- A store group once programmed is never written again, by any command, and stays programmed. -/
def Obligations.StepNeverRewritesAProgrammedGroup : Prop :=
  ∀ s t : State, s.StoreOnce → step s = .next t →
    t.StoreOnce ∧ ∀ g, (s.group g).programmed = true →
      (t.group g).programmed = true ∧ (t.group g).contents = (s.group g).contents

/-! ### The outputs -/

/-- The notice line of a port is asserted exactly while its link is UP and a pending kind is in the mask, in every
state that is settled; every step from a quiet state gives a settled one; and a kind raised at an UP link is entered
in the pending set and counted whatever the mask. After start-up the status lines show the wall state; a code of 0 to
4 shows only while the wall is STARTING; a cold reset returns the lines to 0. -/
def Obligations.NoticeAndStatusLinesShowTheState : Prop :=
  ((∀ (s : State) (p : PortId), s.Settled →
     (s.pins.notice.get p = true ↔
       (s.port p).link = .up ∧ ∃ k : Notice, (s.port p).notices.getLsbD k.index.val = true ∧
         (s.port p).mask.getLsbD k.index.val = true)) ∧
   (∀ s t : State, s.Quiet → step s = .next t → t.Settled) ∧
   ∀ (s : State) (p : PortId) (k : Notice), (s.port p).link = .up →
     (s.raise p k).port p = { s.port p with
       notices := (s.port p).notices ||| BitVec.twoPow 8 k.index.val
       raises := (s.port p).raises.modify k.index fun n => min 255 (n + 1) }) ∧
  ((∀ s : State, s.Settled →
     (s.wall.state = .stopped → s.pins.status = if s.startup.select = 5 then 0xC else 8) ∧
     (s.wall.state = .running → s.pins.status = 9) ∧ (s.wall.state = .dark → s.pins.status = 0xA) ∧
     (s.wall.state = .testing → s.pins.status = 0xB) ∧ (s.wall.state = .halted → s.pins.status = 0xE) ∧
     (s.pins.status ≤ 4 → s.wall.state = .starting)) ∧
   ∀ s t : State, exec .coldReset s = .next t → t.pins.status = 0)

/-- Readiness and driven levels as a settled state shows them: a stream is ready while its port's link is up, it holds
fewer queued and held buffers than its limit, and a FREE buffer exists; a line drives by its mode, the wall error, the
lit state and its pulse; and its pin stands high or low by the polarity while it is driven, and by the pull while it
is RELEASED. -/
def Obligations.ReadinessAndDrivenLevelsFollowTheirRules : Prop :=
  ∀ s : State, s.Settled →
    (∀ st, s.pins.ready.get st = true ↔
      (s.port (if st.val < 4 then .a else .b)).link = .up ∧
      (s.stream st).current.length + (s.stream st).pending.length +
        ((List.finRange 48).filter fun b => (s.buffer b).state == .held &&
          (s.buffer b).frame.any fun f => f.stream == st).length < (s.stream st).config.limit ∧
      ∃ b, (s.buffer b).state = .free) ∧
    (∀ l, ((s.line l).config.mode = .input → s.pins.driven.get l = .released) ∧
      ((s.line l).config.mode = .error →
        s.pins.driven.get l = if s.triggers.error.flag then .active else .inactive) ∧
      ((s.line l).config.mode = .output →
        s.pins.driven.get l =
          if s.lines.dark = true ∧ (s.line l).config.dark = .active then .active
          else if s.lines.dark = true ∧ (s.line l).config.dark = .inactive then .inactive
          else if (s.line l).pulseCount.isSome then .active
          else (s.line l).config.commanded)) ∧
    ∀ l, s.pins.level.get l =
      (match s.pins.driven.get l, (s.line l).config.polarity, (s.line l).config.pull with
       | .active, .activeHigh, _ => .drivenHigh
       | .active, .activeLow, _ => .drivenLow
       | .inactive, .activeHigh, _ => .drivenLow
       | .inactive, .activeLow, _ => .drivenHigh
       | .released, _, .up => .pulledHigh
       | .released, _, .down => .pulledLow
       | .released, _, .none => .undriven)

/-! ### Start-up -/

/-- COLD_RESET from any state: every block holds its cold-reset values, and the store keeps its contents and
programmed flags with an empty staging image. The pins of the lines stay as they are (log 11) and RESET is held (log
3). RESET_RELEASE ends a held RESET: the select code is read and the store load phase begins, with status code 1 and
its line on the console. With RESET not held it changes nothing (log 4). -/
def Obligations.ColdResetAndItsRelease : Prop :=
  (∀ s : State, ∃ t, exec .coldReset s = .next t ∧ t.resetHeld = true ∧ t.pending = s.pending ∧
     t.wall = .reset ∧ t.cues = .reset ∧ t.arbiter = .reset ∧ t.layouts = .reset ∧ (∀ st, t.adverts.get st = none) ∧
     t.plan = .reset ∧ t.store = .reset ∧ (∀ j, t.tile j = .reset) ∧ t.triggers = .reset ∧
     (∀ p, t.port p = .reset) ∧ t.console = .reset ∧ t.pins = .reset ∧
     t.startup.phase = .reset ∧ t.startup.programming = none ∧
     (∀ g, (t.group g).programmed = (s.group g).programmed ∧ (t.group g).contents = (s.group g).contents ∧
       ∀ v ∈ (t.group g).staging, v = none) ∧
     t.lines.dark = false ∧ t.lines.schedule = [] ∧ t.lines.pulseWidth = 600 ∧
     ∀ l, (t.line l).config = .default ∧ (t.line l).rawHigh = (s.line l).rawHigh ∧
       (t.line l).settled = (s.line l).rawHigh ∧ (t.line l).debounceCount = none ∧ (t.line l).pulseCount = none ∧
       (t.line l).rises = 0 ∧ (t.line l).falls = 0 ∧ (t.line l).pulses = 0) ∧
  (∀ (s : State) (sel : BitVec 3), s.Quiet →
     (s.resetHeld = true → ∃ t, exec (.resetRelease sel) s = .next t ∧ t.resetHeld = false ∧
       t.startup = { s.startup with select := sel, phase := .storeLoad } ∧
       t.console = { s.console with printed := s.console.printed ++ [.phase 1] } ∧
       (s.wall.state = .starting → t.pins.status = 1) ∧ SameBut [.resetHeld, .startup, .console, .pins] s t) ∧
     (s.resetHeld = false → exec (.resetRelease sel) s = .next s))

/-- STORE_LOAD_END in the store load phase: every group is judged, every block takes its items from the groups that
are usable and the defaults otherwise, and the mask shift-in begins. Both rotations are set to their cold-reset order
for the groups taken (log 61), every INPUT line retakes its settled level from its pin with no edge, and the other
lines have no debounce count (log 33). Outside that phase it changes nothing (log 4); what the console prints is a
record of it (log 24). -/
def Obligations.StoreLoadEndTakesTheConfiguration : Prop :=
  ∀ s : State, s.AtRest →
    (s.startup.phase = .storeLoad → ∃ t, exec .storeLoadEnd s = .next t ∧ t.startup.phase = .maskShift ∧
      (∀ g, (t.group g).programmed = (s.group g).programmed ∧ (t.group g).contents = (s.group g).contents ∧
        (t.group g).usable =
          if s.startup.select ≠ 4 ∧ (s.group g).programmed = true then
            (if groupInRange g (s.group g).contents then .usable else .unusable)
          else .notLoaded) ∧
      (let v := fun g => if (t.group g).usable = .usable then (s.group g).contents else groupDefaults g
       t.wall = { s.wall with rate := numAt (v 2) 0, horizon := numAt (v 2) 1 } ∧
       t.layouts.geometry = { cols := numAt (v 1) 0, rows := numAt (v 1) 1, tileW := numAt (v 1) 2,
                              tileH := numAt (v 1) 3, gapH := numAt (v 1) 4, gapV := numAt (v 1) 5 } ∧
       t.layouts.table.get 0 = Loaded.layout0 (v 6) ∧ t.plan.level = numAt (v 6) 0 ∧
       (∀ j, t.tile j = { s.tile j with override := Loaded.override (v 3) j }) ∧
       (∀ j, t.plan.trims.get j = numAt (v 4) j.val) ∧
       (∀ l : LineId, t.line l =
         (let x := s.line l
          let c := Loaded.line (v 5) l
          { x with
            config := c
            settled := if c.mode = .input then (if c.polarity = .activeHigh then x.rawHigh else !x.rawHigh) else x.settled
            debounceCount := none, rises := 0, falls := 0, pulses := 0 })) ∧
       t.lines.pulseWidth = Loaded.pulseWidth (v 5) ∧
       t.arbiter.groups = Loaded.groups (v 7) ∧
       (s.arbiter.granted ≠ none ∨ (∀ r, s.claimOf r = none) →
         let of := fun g : ArbGroup => ([.port .a, .port .b, .console, .trigger] : List Requester).filter fun r =>
           (Loaded.groups (v 7)).get r == g
         t.arbiter.high = (of .high).map .requester ++ [.lowGroup] ∧ t.arbiter.low = of .low) ∧
       ∀ st, (t.stream st).config = { Loaded.stream 0 (v 9) st with
         limit := max (numAt (v 9) (5 * st.val + 2)) (numAt (v 2) 1 + 2) }) ∧
      t.console.printed = s.console.printed ++
        [.storeLoaded s.startup.select ((List.finRange 10).filter fun g => (t.group g).usable == .unusable), .phase 2] ∧
      t.startup.maskPins = s.startup.maskPins ++ [.load, .clockPulse, .shift] ∧
      SameBut [.wall, .arbiter, .layouts, .plan, .store, .tiles, .lines, .ports, .console, .startup, .pins] s t) ∧
    (s.startup.phase ≠ .storeLoad → exec .storeLoadEnd s = .next s)

/-- MASK_SHIFT_IN_END in the mask shift-in: each existing position whose mask bit is 0 enters DOWN, and the frame
store check begins. FRAME_STORE_CHECK_END in the frame store check: the buffers that failed are RETIRED with cause
CHECK, the others are counted as passed, and phase 4 begins; under select code 6 every buffer stays as it is and 48
have passed. The console prints the count of the existing positions that are enabled (log 38), a buffer keeps the rest
of its record when it is RETIRED (log 36), phase 3 lasts until this command under code 6 too (log 77), and outside
their phases both commands change nothing (log 4). -/
def Obligations.MaskShiftAndStoreCheckEnd : Prop :=
  (∀ (s : State) (mask : BitVec 24), s.AtRest →
     (s.startup.phase = .maskShift → ∃ t, exec (.maskShiftInEnd mask) s = .next t ∧
       (∀ j : TileId, t.tile j =
         if j.val < s.layouts.geometry.cols * s.layouts.geometry.rows ∧ mask.getLsbD j.val = false ∧
             (s.tile j).state = .off
         then { s.tile j with state := .down } else s.tile j) ∧
       t.startup.phase = .storeCheck ∧ t.startup.mask = mask ∧
       t.startup.maskPins = s.startup.maskPins ++
         ((List.finRange 24).flatMap fun j => [.read (mask.getLsbD j.val), .clockPulse]) ∧
       t.console.printed = s.console.printed ++ [.positionsEnabled ((List.finRange 24).filter fun j =>
         decide (j.val < s.layouts.geometry.cols * s.layouts.geometry.rows) && !mask.getLsbD j.val).length, .phase 3] ∧
       SameBut [.tiles, .console, .startup, .pins] s t) ∧
     (s.startup.phase ≠ .maskShift → exec (.maskShiftInEnd mask) s = .next s)) ∧
  (∀ (s : State) (failed : BitVec 48), s.AtRest →
     (s.startup.phase = .storeCheck → ∃ t, exec (.frameStoreCheckEnd failed) s = .next t ∧
       t.startup.phase = .applying ∧ PortsKeep s t ∧
       (s.startup.select ≠ 6 →
         (∀ b : BufId, t.buffer b =
           if failed.getLsbD b.val then
             { s.buffer b with state := .retired, refs := 0, cause := some .check }
           else s.buffer b) ∧
         t.startup.passed = ((List.finRange 48).filter fun b => !failed.getLsbD b.val).length ∧
         t.console.printed = s.console.printed ++ [.buffersPassed t.startup.passed, .phase 4]) ∧
       (s.startup.select = 6 → t.store = s.store ∧ t.startup.passed = 48 ∧
         t.console.printed = s.console.printed ++ [.checkSkipped, .phase 4]) ∧
       SameBut [.store, .ports, .console, .startup, .pins] s t) ∧
     (s.startup.phase ≠ .storeCheck → exec (.frameStoreCheckEnd failed) s = .next s))

/-- CONSOLE_RATE_CHANGE in phase 4: the console takes its configured rate and the start state is entered. Fewer than 8
buffers make it HALTED, with the links left HELD; else select code 3 makes it TESTING, and every other STOPPED. Codes
0, 4, 6 and 7 end start-up with the links DOWN; code 5 leaves them HELD; code 1 presents the TAKE of layout 0, and
code 2 runs the wall and presents GO DARK at NEXT offset 0. An epoch above 2^48−1 is refused RANGE, which is printed:
under codes 2 and 3 the wall stays STOPPED, and under code 2 GO DARK is presented all the same (log 25). When the
change is made, and what is printed, is as log 25 says. Under code 3 the console enters TEST with its counts at 0, but
a wait or a wrap in progress is not ended (log 41). The TAKE of code 1 is due at the show clock of this command (log
60). -/
def Obligations.RateChangeEntersTheStartState : Prop :=
  ∀ s : State, s.AtRest → s.startup.phase = .applying → s.startup.rateChanged = false →
    let e := (s.wall.clock / s.period + 1) * s.period
    let opened := fun l : LinkState => if l = .held then .down else l
    ∃ t, exec .consoleRateChange s = .next t ∧ t.console.rateCode = numAt (s.loadedFrom 8) 0 ∧
      t.startup = { s.startup with rateChanged := true, phase := t.startup.phase } ∧
      (s.startup.passed < 8 → t.wall = { s.wall with state := .halted } ∧ t.startup.phase = .ended ∧ PortsKeep s t ∧
        t.console.printed = s.console.printed ++ [.startState .halted]) ∧
      (8 ≤ s.startup.passed → s.startup.select ∈ ([0, 4, 6, 7] : List (BitVec 3)) →
        t.wall = { s.wall with state := .stopped } ∧ t.startup.phase = .ended ∧
        (∀ p, (t.port p).link = opened (s.port p).link) ∧
        t.console.printed = s.console.printed ++ [.startState .stopped]) ∧
      (8 ≤ s.startup.passed → s.startup.select = 5 →
        t.wall = { s.wall with state := .stopped } ∧ t.startup.phase = .ended ∧ PortsKeep s t) ∧
      (8 ≤ s.startup.passed → s.startup.select = 3 → maxClock < e →
        t.wall = { s.wall with state := .stopped } ∧ t.startup.phase = .ended ∧
        (∀ p, (t.port p).link = opened (s.port p).link) ∧
        t.console = { s.console with rateCode := numAt (s.loadedFrom 8) 0,
                                     printed := s.console.printed ++ [.refused .range, .startState .stopped] }) ∧
      (8 ≤ s.startup.passed → s.startup.select = 3 → e ≤ maxClock →
        t.wall = { s.wall with state := .testing, epoch := some e, newest := none } ∧ t.startup.phase = .ended ∧
        (s.console.mode ≠ .waiting ∧ s.console.mode ≠ .wrap → t.console.mode = .test ∧ t.console.passes = 0 ∧
          t.console.errors = 0 ∧ t.console.inPass = 0 ∧
          t.console.printed = s.console.printed ++ [.testing, .startState .testing]) ∧
        (s.console.mode = .waiting ∨ s.console.mode = .wrap → t.console.mode = s.console.mode ∧
          t.console.target = s.console.target ∧ t.console.printed = s.console.printed ++ [.startState .testing]) ∧
        (∀ p, (t.port p).link = opened (s.port p).link)) ∧
      (8 ≤ s.startup.passed → s.startup.select = 1 →
        t.wall = { s.wall with state := .stopped } ∧ t.startup.phase = .applying ∧ PortsKeep s t ∧
        ∃ raw : RawPost, raw = { params := some (.takeLayout 0), due := some (.time s.wall.clock),
                                 tail := some { late := 1, gate := 0, patience := none, onTimeout := none } } ∧
          (t.arbiter.startupClaim = some raw ∨
            t.arbiter.granted = some { claimant := .startup, op := .post raw, answered := true })) ∧
      (8 ≤ s.startup.passed → s.startup.select = 2 → t.startup.phase = .applying ∧
        (∀ p, (t.port p).link = (s.port p).link) ∧
        (∃ raw : RawPost, raw = { params := some .goDark, due := some (.next 0),
                                  tail := some { late := 1, gate := 0, patience := none, onTimeout := none } } ∧
          (t.arbiter.startupClaim = some raw ∨
            t.arbiter.granted = some { claimant := .startup, op := .post raw, answered := true })) ∧
        (e ≤ maxClock → t.wall = { s.wall with state := .running, epoch := some e, newest := none }) ∧
        (maxClock < e → t.wall = { s.wall with state := .stopped } ∧
          t.console.printed = s.console.printed ++ [.refused .range])) ∧
      SameBut [.wall, .cues, .arbiter, .plan, .store, .tiles, .triggers, .lines, .ports, .console, .startup, .pins] s t

/-! ### Time -/

/-- SHOW_TICK: the clock counts up by one and saturates at 2^48−1; the lapse, training, pulse and timer counts, and
the debounce count of an INPUT line, go down by one, and stay at 0 until their end is taken (log 5); a CLOCK
comparison that fires nothing takes its last value from the new clock. A CLOCK comparison that a tick makes true fires
its trigger once: with no other enabled trigger on the clock, and an action without marks or chain, the fire count
rises, the last fire is the condition at the new clock, ONCE disables, and the last value is true. One whose last
value was true does not fire. -/
def Obligations.ShowTickMovesTheClockAndEveryCount : Prop :=
  (∀ s : State, s.AtRest → ∃ t, exec .showTick s = .next t ∧
     t.wall = { s.wall with clock := min (s.wall.clock + 1) (2 ^ 48 - 1) } ∧
     t.cues = { s.cues with hold := s.cues.hold.map fun h => { h with lapse := h.lapse - 1 } } ∧
     (∀ j, t.tile j = { s.tile j with training := (s.tile j).training.map (· - 1) }) ∧ PortsKeep s t ∧
     SameBut [.wall, .cues, .arbiter, .tiles, .triggers, .lines, .ports, .pins] s t ∧
     (s.Unwatched .clock →
       (∀ l, t.line l = { s.line l with
         debounceCount := if (s.line l).config.mode = .input then (s.line l).debounceCount.map (· - 1)
                          else (s.line l).debounceCount
         pulseCount := (s.line l).pulseCount.map (· - 1) }) ∧
       (∀ i, t.triggers.timers.get i =
         if (s.triggers.timers.get i).running then
           { s.triggers.timers.get i with count := (s.triggers.timers.get i).count - 1 }
         else s.triggers.timers.get i) ∧
       (∀ k, t.trigger k = if (s.trigger k).defn.condition = .clock then (s.trigger k).evaluated (some t.wall.clock)
         else s.trigger k) ∧
       SameBut [.wall, .cues, .tiles, .triggers, .lines] s t)) ∧
  (∀ (s : State) (k : TriggerId) (m : Nat), s.AtRest → (s.trigger k).enabled = true →
     (s.trigger k).defn.condition = .clock → (s.trigger k).defn.mark = some m →
     (∀ i, i ≠ k → (s.trigger i).enabled = true → (s.trigger i).defn.condition ≠ .clock) →
     (s.trigger k).defn.action.marks = none → (s.trigger k).defn.action.chain = none →
     m ≤ min (s.wall.clock + 1) maxClock →
     ∃ t, exec .showTick s = .next t ∧ (t.trigger k).last = true ∧
       ((s.trigger k).last = false →
         (t.trigger k).fires = min 65535 ((s.trigger k).fires + 1) ∧
         (t.trigger k).lastFire = some (.condition, t.wall.clock) ∧
         (t.trigger k).enabled = !(s.trigger k).defn.once) ∧
       ((s.trigger k).last = true → t.trigger k = s.trigger k))

/-- BOUNDARY, while the wall is RUNNING or DARK and the clock has reached E + n × Pw: n becomes the newest boundary
number, refresh n + H is committed, the lit schedule up to n is applied, and every tile link that is up is sent the
sync marker of n, after everything else (log 7). At any other time it changes nothing (log 4). The tiles in `early`
act before the Cut Engine (log 6). -/
def Obligations.BoundaryCommitsTheHorizonRefresh : Prop :=
  ∀ (s : State) (early : BitVec 24), s.AtRest →
    let n := (s.wall.newest.map (· + 1)).getD 0
    let due := (s.wall.state = .running ∨ s.wall.state = .dark) ∧
      ∃ e, s.wall.epoch = some e ∧ e + n * s.period ≤ s.wall.clock
    (due → ∃ t, exec (.boundary early) s = .next t ∧
      t.wall = { s.wall with newest := some n, state := t.wall.state } ∧
      (t.wall.state = .running ∨ t.wall.state = .dark) ∧ t.plan.newest = some (n + s.wall.horizon) ∧
      (0 < s.wall.horizon → ∃ e ∈ t.plan.entries, e.refresh = n + s.wall.horizon ∧
        e.dark = (t.wall.state == .dark) ∧ e.level = t.plan.level ∧
        (t.wall.state = .dark → e.complete = true ∧ ∀ r ∈ e.records, r.buffer = .black ∧ r.level = 0) ∧
        (t.wall.state = .running → ∀ r ∈ e.records, r.level = e.level * (t.plan.trims.get r.pos + 1) / 256)) ∧
      t.plan.trims = s.plan.trims ∧
      (∀ e ∈ t.plan.entries, e.refresh ≤ n → 0 < s.wall.horizon → e.complete = true) ∧
      (∀ c ∈ t.lines.schedule, n < c.1) ∧ PortsKeep s t ∧
      (∀ j, (t.tile j).linkUp = (s.tile j).linkUp ∧
        ((s.tile j).linkUp = true → (t.tile j).sent.getLast? = some (.sync n false))) ∧
      SameBut [.wall, .cues, .arbiter, .layouts, .adverts, .plan, .store, .tiles, .triggers, .lines, .ports, .pins] s t) ∧
    (¬ due → exec (.boundary early) s = .next s)

/-- What a BOUNDARY does at a LIVE tile of depth D: a refresh n − 2 still awaiting its report is a miss, the third in
a run faults the tile MISSES, and any other tile takes the dispatch of refresh n + D. The tiles in `early` act before
the Cut Engine (log 6). -/
def Obligations.BoundaryJudgesAndFeedsEachLiveTile : Prop :=
  ∀ (s : State) (early : BitVec 24) (j : TileId) (d : Nat), s.AtRest →
    let n := (s.wall.newest.map (· + 1)).getD 0
    let missed := 2 ≤ n ∧ n - 2 ∈ (s.tile j).awaiting
    (s.wall.state = .running ∨ s.wall.state = .dark) → (∃ e, s.wall.epoch = some e ∧ e + n * s.period ≤ s.wall.clock) →
    (s.tile j).state = .live → (s.tile j).depth = some d →
    ∃ t, exec (.boundary early) s = .next t ∧ (t.tile j).depth = some d ∧
      (¬ missed ∨ (s.tile j).missRun < 2 →
        (t.tile j).state = .live ∧ (t.tile j).first = (s.tile j).first ∧
        (∃ x ∈ (t.tile j).dispatches, x.refresh = n + d) ∧ (∀ x ∈ (t.tile j).dispatches, n ≤ x.refresh) ∧
        (t.tile j).totals.dispatched = min 65535 ((s.tile j).totals.dispatched + 1) ∧
        (t.tile j).awaiting =
          (if missed then (s.tile j).awaiting.filter (· != n - 2) else (s.tile j).awaiting) ++ [n + d] ∧
        (t.tile j).missRun = (if missed then (s.tile j).missRun + 1 else (s.tile j).missRun) ∧
        (t.tile j).totals.misses =
          if missed then min 65535 ((s.tile j).totals.misses + 1) else (s.tile j).totals.misses) ∧
      (missed ∧ 2 ≤ (s.tile j).missRun →
        (t.tile j).state = .faulted ∧ (t.tile j).reason = some .misses ∧ (t.tile j).dispatches = [] ∧
        (t.tile j).awaiting = [] ∧ (t.tile j).first = none ∧
        (t.tile j).totals.dispatched = (s.tile j).totals.dispatched ∧
        (t.tile j).totals.faults = min 65535 ((s.tile j).totals.faults + 1) ∧ t.triggers.error.flag = true)

/-- TEST_BOUNDARY, while TESTING and once due, completes. The number rises; a LIVE tile whose report of refresh n − 2
is still awaited is late: it costs the tile a miss and no fault, and the console, in mode TEST, a test error; each
LIVE tile of depth D takes the test dispatch of refresh n + D; the console counts the boundary, and at the 120th of a
pass prints the errors and passes so far; and the sync marker carries the test flag. A console still in a wait or a
wrap counts nothing (log 41). At any other time it changes nothing (log 4). The tiles in `early` act before the
console (log 6). -/
def Obligations.TestBoundaryFeedsTilesAndCounts : Prop :=
  ∀ (s : State) (early : BitVec 24), s.AtRest →
    let n := (s.wall.newest.map (· + 1)).getD 0
    let due := s.wall.state = .testing ∧ ∃ e, s.wall.epoch = some e ∧ e + n * s.period ≤ s.wall.clock
    let late := (List.finRange 24).filter fun j =>
      (s.tile j).state == .live && decide (2 ≤ n) && (s.tile j).awaiting.contains (n - 2)
    let errors := fun k => if k = 0 then s.console.errors else min 65535 (s.console.errors + k)
    let passed := s.console.inPass + 1 = 120
    (due → ∃ t, exec (.testBoundary early) s = .next t ∧ t.wall = { s.wall with newest := some n } ∧
      (∀ j, (t.tile j).state = (s.tile j).state ∧ (t.tile j).missRun = (s.tile j).missRun ∧
        (t.tile j).linkUp = (s.tile j).linkUp ∧
        ((s.tile j).linkUp = true → (t.tile j).sent.getLast? = some (.sync n true)) ∧
        (t.tile j).totals.misses =
          (if j ∈ late then min 65535 ((s.tile j).totals.misses + 1) else (s.tile j).totals.misses) ∧
        (∀ d, (s.tile j).state = .live → (s.tile j).depth = some d →
          (t.tile j).awaiting =
            (if j ∈ late then (s.tile j).awaiting.filter (· != n - 2) else (s.tile j).awaiting) ++ [n + d] ∧
          (t.tile j).totals.dispatched = min 65535 ((s.tile j).totals.dispatched + 1) ∧
          (∀ x ∈ (t.tile j).dispatches, n ≤ x.refresh) ∧
          ∃ x ∈ (t.tile j).dispatches, x.refresh = n + d ∧ x.phase.load = some .test) ∧
        ((s.tile j).state ≠ .live → t.tile j = { s.tile j with
          sent := if (s.tile j).linkUp then (s.tile j).sent ++ [.sync n true] else (s.tile j).sent })) ∧
      (s.console.mode = .test → t.console = { s.console with
        errors := errors late.length
        inPass := if passed then 0 else s.console.inPass + 1
        passes := if passed then min 65535 (s.console.passes + 1) else s.console.passes
        printed := s.console.printed ++ (if passed then
          [.tally (errors (late.filter fun j => early.getLsbD j.val).length) (min 65535 (s.console.passes + 1))] else []) }) ∧
      (s.console.mode ≠ .test → t.console = s.console) ∧
      SameBut [.wall, .plan, .store, .tiles, .console] s t) ∧
    (¬ due → exec (.testBoundary early) s = .next s)

/-- HOLD_LAPSE, once the lapse count is 0: the hold ends and HOLD is raised at its former holder. Before that it
changes nothing (log 5). PULSE_END, once the count is 0: the pulse ends and an OUTPUT line that the dark level does
not decide drives its commanded level. Otherwise it changes nothing (log 5). TIMER_EXPIRY of a RUNNING timer whose
count is 0: the expiry is counted, a repeating timer takes its start value again and stays RUNNING, another stops; and
an enabled trigger on that timer, alone, without timers, marks or chain, fires. -/
def Obligations.CountsThatReachZeroEnd : Prop :=
  (∀ s : State, s.AtRest →
     (∀ h : Hold, s.cues.hold = some h → h.lapse = 0 → ∃ t, exec .holdLapse s = .next t ∧
       t.cues = { s.cues with hold := none } ∧ t.port h.holder.other = s.port h.holder.other ∧
       t.port h.holder =
         (if (s.port h.holder).link = .up then
           { s.port h.holder with
             notices := (s.port h.holder).notices ||| BitVec.twoPow 8 5
             raises := (s.port h.holder).raises.modify 5 fun n => min 255 (n + 1) }
         else s.port h.holder) ∧ SameBut [.cues, .ports, .pins] s t) ∧
     ((∀ h : Hold, s.cues.hold = some h → h.lapse ≠ 0) → exec .holdLapse s = .next s)) ∧
  (∀ (s : State) (l : LineId), s.AtRest →
     ((s.line l).pulseCount = some 0 → ∃ t, exec (.pulseEnd l) s = .next t ∧
       t.line l = { s.line l with pulseCount := none } ∧ (∀ i, i ≠ l → t.line i = s.line i) ∧
       t.lines.dark = s.lines.dark ∧ t.lines.schedule = s.lines.schedule ∧ t.lines.pulseWidth = s.lines.pulseWidth ∧
       ((s.line l).config.mode = .output → s.lines.dark = false ∨ (s.line l).config.dark = .follow →
         t.pins.driven.get l = (s.line l).config.commanded) ∧
       SameBut [.lines, .pins] s t) ∧
     ((s.line l).pulseCount ≠ some 0 → exec (.pulseEnd l) s = .next s)) ∧
  (∀ (s : State) (i : TimerId), s.AtRest →
     let x := s.triggers.timers.get i
     let after : Timer :=
       if x.rep then { x with expiries := min 65535 (x.expiries + 1), count := x.start }
       else { x with expiries := min 65535 (x.expiries + 1), running := false, count := 0 }
     (x.running = true → x.count = 0 → s.Unwatched (.timer i) → ∃ t, exec (.timerExpiry i) s = .next t ∧
       t.triggers.timers.get i = after ∧ (∀ o, o ≠ i → t.triggers.timers.get o = s.triggers.timers.get o) ∧
       t.triggers = { s.triggers with timers := t.triggers.timers } ∧ SameBut [.triggers] s t) ∧
     (∀ k : TriggerId, x.running = true → x.count = 0 → (s.trigger k).enabled = true →
       (s.trigger k).defn.condition = .timer i →
       (∀ o, o ≠ k → (s.trigger o).enabled = true → (s.trigger o).defn.condition ≠ .timer i) →
       (s.trigger k).defn.action.marks = none → (s.trigger k).defn.action.timers = none →
       (s.trigger k).defn.action.chain = none → ∃ t, exec (.timerExpiry i) s = .next t ∧
       t.triggers.timers.get i = after ∧ (t.trigger k).fires = min 65535 ((s.trigger k).fires + 1) ∧
       (t.trigger k).lastFire = some (.condition, s.wall.clock) ∧ (t.trigger k).enabled = !(s.trigger k).defn.once ∧
       SameBut [.arbiter, .triggers, .lines, .ports, .pins] s t) ∧
     (x.running = false ∨ x.count ≠ 0 → exec (.timerExpiry i) s = .next s))

/-- TRAINING_TIMEOUT, once the count of a TRAINING tile is 0: the tile is FAULTED SILENT, a tile fault sets the wall
error and TILE is raised. A hello taken first drops the count, so that the timeout does nothing; one taken after it is
counted and changes nothing else of the tile; and a tile faulted SILENT has no hello depth and no depth. Before the
count is 0 the timeout changes nothing (log 4, log 5), and a hello on a link that is down changes nothing (log 31). -/
def Obligations.TrainingTimeoutFaultsTheTileSilent : Prop :=
  ∀ (s : State) (j : TileId), s.AtRest →
    ((s.tile j).state = .training → (s.tile j).training = some 0 → ∃ t, exec (.trainingTimeout j) s = .next t ∧
      t.tile j = { s.tile j with state := .faulted, reason := some .silent, training := none,
                                 totals := { (s.tile j).totals with
                                   faults := min 65535 ((s.tile j).totals.faults + 1) } } ∧
      (∀ i, i ≠ j → t.tile i = s.tile i) ∧ (s.TilesFit → (t.tile j).helloDepth = none ∧ (t.tile j).depth = none) ∧
      t.triggers.error = { flag := true, count := min 65535 (s.triggers.error.count + 1),
                           cause := if s.triggers.error.flag then s.triggers.error.cause
                                    else some (.tileFault j .silent) } ∧
      (s.triggers.disableOnError = true → t.NoTriggers) ∧
      (∀ p, (s.port p).link = .up → (t.port p).notices.getLsbD 2 = true) ∧ PortsKeep s t ∧
      SameBut [.arbiter, .tiles, .triggers, .lines, .ports, .pins] s t ∧
      ∀ (depth : Byte) (u : State), exec (.hello j depth) t = .next u → u.tile j =
        if (t.tile j).linkUp then
          { t.tile j with totals := { (t.tile j).totals with hello := min 65535 ((t.tile j).totals.hello + 1) } }
        else t.tile j) ∧
    ((s.tile j).state ≠ .training ∨ (s.tile j).training ≠ some 0 → exec (.trainingTimeout j) s = .next s) ∧
    ∀ (depth : Byte) (t : State), (s.tile j).state = .training → (s.tile j).linkUp = true →
      exec (.hello j depth) s = .next t → (t.tile j).state ≠ .training ∧ exec (.trainingTimeout j) t = .next t

/-! ### Lines -/

/-- RAW_LEVEL_CHANGE and DEBOUNCE_END at an INPUT line: a level that differs from the settled one starts the debounce
count, one that agrees stops it, and the settled level changes, with its edge counted, when the count ends or at once
with a debounce of 0. In the other modes the raw level alone is taken. While RESET is held the line keeps to its pin
(log 3). DEBOUNCE_END before the count is 0 changes nothing (log 5), nor does RAW_LEVEL_CHANGE to the level the pin
has (log 4). -/
def Obligations.InputLinesAreDebounced : Prop :=
  (∀ (s : State) (l : LineId) (high : Bool), s.AtRest → (s.line l).rawHigh ≠ high →
    let x := s.line l
    let level := if x.config.polarity = .activeHigh then high else !high
    ∃ t, exec (.rawLevelChange l high) s = .next t ∧ (∀ i, i ≠ l → (t.line i).settled = (s.line i).settled) ∧
      PortsKeep s t ∧ SameBut [.arbiter, .triggers, .lines, .ports, .pins] s t ∧
      (x.config.mode ≠ .input → t.line l = { x with rawHigh := high } ∧ SameBut [.lines] s t) ∧
      (x.config.mode = .input → level = x.settled →
        t.line l = { x with rawHigh := high, debounceCount := none } ∧ SameBut [.lines] s t) ∧
      (x.config.mode = .input → level ≠ x.settled → 0 < x.config.debounce →
        t.line l = { x with rawHigh := high, debounceCount := some x.config.debounce } ∧ SameBut [.lines] s t) ∧
      (x.config.mode = .input → level ≠ x.settled → x.config.debounce = 0 → s.Unwatched (.edge l level) →
        t.line l = { x with rawHigh := high, settled := level, debounceCount := none,
                            rises := if level then min 65535 (x.rises + 1) else x.rises,
                            falls := if level then x.falls else min 65535 (x.falls + 1) })) ∧
  (∀ (s : State) (l : LineId), s.AtRest → (s.line l).config.mode = .input → (s.line l).debounceCount = some 0 →
    let x := s.line l
    let level := if x.config.polarity = .activeHigh then x.rawHigh else !x.rawHigh
    (s.Unwatched (.edge l level) → ∃ t, exec (.debounceEnd l) s = .next t ∧
      t.line l = { x with settled := level, debounceCount := none,
                          rises := if level then min 65535 (x.rises + 1) else x.rises,
                          falls := if level then x.falls else min 65535 (x.falls + 1) } ∧
      (∀ i, i ≠ l → t.line i = s.line i) ∧ SameBut [.lines] s t) ∧
    ∀ (k : TriggerId) (edge : EdgeKind), (s.trigger k).enabled = true → (s.trigger k).defn.condition = .line l edge →
      edge = .either ∨ (edge = .rise ↔ level = true) →
      (∀ o, o ≠ k → (s.trigger o).enabled = true → ∀ e, (s.trigger o).defn.condition ≠ .line l e) →
      (s.trigger k).defn.action.chain = none →
      ∃ t, exec (.debounceEnd l) s = .next t ∧ (t.line l).settled = level ∧
        (t.trigger k).fires = min 65535 ((s.trigger k).fires + 1) ∧
        (t.trigger k).lastFire = some (.condition, s.wall.clock)) ∧
  (∀ (s : State) (l : LineId), s.AtRest → (s.line l).config.mode ≠ .input ∨ (s.line l).debounceCount ≠ some 0 →
    exec (.debounceEnd l) s = .next s) ∧
  (∀ (s : State) (l : LineId) (high : Bool), s.AtRest → (s.line l).rawHigh = high →
    exec (.rawLevelChange l high) s = .next s) ∧
  ∀ (s : State) (l : LineId) (high : Bool), s.resetHeld = true →
    exec (.rawLevelChange l high) s = .next (s.modLine l fun x => { x with rawHigh := high, settled := high })

/-! ### Frames -/

/-- FRAME_PACKET on an UP link with no frame arriving: for a ready stream the lowest FREE buffer becomes FILLING under
a new fill number with the header; for a stream that is not ready the packet is counted crossed; a local number above
3 is counted stray. With a frame arriving, or the link not UP, it changes nothing (log 28). FRAME_ARRIVAL_END of a
picture whose bytes have all come. A frame of the current generation above the floor, of the configured size, not a
duplicate, within the length in HOLD mode and with room, is queued by its number and counted accepted; one at or below
the floor is counted late. Counted stale are a frame of another generation than the current and the pending one, one of
another size, one past the length in HOLD mode, a duplicate of a queued frame of its generation, and one for which the
queued and held buffers leave no room. The check value is a free value (log 9), formed and kept also where the frame is
discarded (log 46). A picture of another length does not end the arrival (log 28).
-/
def Obligations.FramesArriveIntoTheQueue : Prop :=
  (∀ (s : State) (p : PortId) (stream gen : Byte) (number : BitVec 32) (width height : BitVec 16), s.AtRest →
     let c := Instr.framePacket p stream gen number width height
     ((s.port p).link = .up → s.store.arrivals.get p = none →
       (∀ st : StreamId, stream.toNat < 4 → st.val = stream.toNat + (match p with | .a => 0 | .b => 4) →
         (s.streamReady st = true → ∀ b : BufId, (s.buffer b).state = .free → (∀ i, i < b → (s.buffer i).state ≠ .free) →
           ∃ t, exec c s = .next t ∧
             t.buffer b = { s.buffer b with
               state := .filling, fill := ((s.buffer b).fill + 1) % 2 ^ 32
               frame := some { stream := st, gen := gen.toNat, number := number.toNat, width := width.toNat,
                               height := height.toNat, picture := [] } } ∧
             (∀ i, i ≠ b → t.buffer i = s.buffer i) ∧ t.store.arrivals.get p = some b ∧
             t.store.streams = s.store.streams ∧ PortsKeep s t ∧ SameBut [.store, .ports, .pins] s t) ∧
         (s.streamReady st = false → ∃ t, exec c s = .next t ∧
           t.stream st = { s.stream st with counts := { (s.stream st).counts with
             crossed := min 65535 ((s.stream st).counts.crossed + 1) } } ∧
           (∀ i, i ≠ st → t.stream i = s.stream i) ∧ t.store.buffers = s.store.buffers ∧
           t.store.arrivals = s.store.arrivals ∧ SameBut [.store] s t)) ∧
       (4 ≤ stream.toNat → exec c s = .next (s.modPort p fun q => { q with stray := min 65535 (q.stray + 1) }))) ∧
     ((s.port p).link ≠ .up ∨ s.store.arrivals.get p ≠ none → exec c s = .next s)) ∧
  (∀ (s : State) (p : PortId) (picture : List Byte) (b : BufId) (f : Frame), s.AtRest →
     s.store.arrivals.get p = some b → (s.buffer b).frame = some f →
     let x := s.stream f.stream
     let sized := 0 < x.config.width ∧ 0 < x.config.height ∧ f.width = x.config.width ∧ f.height = x.config.height
     let same := fun i : BufId => (s.buffer i).frame.any fun g => g.gen == f.gen && g.number == f.number
     let room := s.store.load f.stream < x.config.limit
     let freed := { s.buffer b with
       state := .free, frame := none, refs := 0, check := Config.checkValue picture, bad := false, cause := none }
     let stored := { s.buffer b with
       state := .queued, frame := some { f with picture := picture }, check := Config.checkValue picture }
     let stale := { x with counts := { x.counts with stale := min 65535 (x.counts.stale + 1) } }
     (picture.length = f.width * f.height * 3 → ∃ t, exec (.frameArrivalEnd p picture) s = .next t ∧
       t.store.arrivals.get p = none ∧ t.store.arrivals.get p.other = s.store.arrivals.get p.other ∧
       (∀ i, i ≠ b → t.buffer i = s.buffer i) ∧ (∀ st, st ≠ f.stream → t.stream st = s.stream st) ∧ PortsKeep s t ∧
       SameBut [.store, .ports, .pins] s t ∧
       (sized → x.currentGen = some f.gen → (∀ c, x.floor = some c → c < f.number) →
         (x.currentMode = some .hold → ∀ len, x.currentLength = some len → f.number ≤ len - 1) →
         (x.current.any same) = false → room →
         t.buffer b = stored ∧ (t.stream f.stream).counts = { x.counts with accepted := min 65535 (x.counts.accepted + 1) } ∧
         (t.stream f.stream).pending = x.pending ∧
         ∃ l r, x.current = l ++ r ∧ (t.stream f.stream).current = l ++ b :: r ∧
           (∀ i ∈ l, s.store.number i ≤ f.number) ∧ ∀ i, r.head? = some i → f.number < s.store.number i) ∧
       (sized → x.currentGen = some f.gen → (∃ c, x.floor = some c ∧ f.number ≤ c) →
         t.buffer b = freed ∧
         t.stream f.stream = { x with counts := { x.counts with late := min 65535 (x.counts.late + 1) } }) ∧
       (¬ sized ∨ (x.currentGen ≠ some f.gen ∧ x.pendingGen ≠ some f.gen) →
         t.buffer b = freed ∧ t.stream f.stream = stale) ∧
       (sized → x.currentGen = some f.gen → (∀ c, x.floor = some c → c < f.number) →
         (x.currentMode = some .hold ∧ ∃ len, x.currentLength = some len ∧ len - 1 < f.number) ∨
           (x.current.any same) = true ∨ ¬ room →
         t.buffer b = freed ∧ t.stream f.stream = stale) ∧
       (sized → x.currentGen ≠ some f.gen → x.pendingGen = some f.gen → (x.pending.any same) = true ∨ ¬ room →
         t.buffer b = freed ∧ t.stream f.stream = stale) ∧
       (sized → x.currentGen ≠ some f.gen → x.pendingGen = some f.gen → (x.pending.any same) = false → room →
         t.buffer b = stored ∧ (t.stream f.stream).current = x.current ∧
         (t.stream f.stream).counts = { x.counts with accepted := min 65535 (x.counts.accepted + 1) } ∧
         b ∈ (t.stream f.stream).pending)) ∧
     (picture.length ≠ f.width * f.height * 3 → exec (.frameArrivalEnd p picture) s = .next s))

/-- PICK answered FRESH: among the queued frames of the generation at or below the target, the one of the greatest
number is HELD with one reference for each tile and one for last-picked, the others are released and counted passed,
and the floor becomes its number. Nothing of the stream waits directly behind the pick. PICK with no frame to choose:
the last-picked frame is repeated with one reference more for each tile, or the answer is BLACK when there is none;
the pick starves when the floor is none or below the target, and STARVE is raised at the stream's port unless the
stream was starving already. -/
def Obligations.PickAnswersFromTheQueue : Prop :=
  (∀ (s : State) (st : StreamId) (n gen target tiles : Nat) (rest : List Handoff) (b : BufId), s.AtRest →
     s.plan.handoffs.get st = .pick n gen target tiles :: rest → (∀ h, rest.head? = some h → h.isPick = true) →
     let x := s.stream st
     let queue := x.current ++ x.pending
     let cand := fun i : BufId => (s.buffer i).frame.any fun f => f.gen == gen && decide (f.number ≤ target)
     b ∈ queue → queue.Nodup → cand b = true →
     (∀ i ∈ queue, i ≠ b → cand i = true → s.store.number i < s.store.number b) →
     x.lastPicked ≠ some b →
     ∃ t, exec (.pick st) s = .next t ∧
       t.buffer b = { s.buffer b with state := .held, refs := tiles + 1 } ∧
       (∀ i ∈ queue, i ≠ b → cand i = true → (t.buffer i).state = .free) ∧
       (t.stream st).current = x.current.filter (fun i => !cand i) ∧
       (t.stream st).pending = x.pending.filter (fun i => !cand i) ∧
       (t.stream st).lastPicked = some b ∧ (t.stream st).floor = some (s.store.number b) ∧
       (t.stream st).lastOutcome = some .fresh ∧ (t.stream st).starving = false ∧
       (t.stream st).counts = { x.counts with passed := min 65535 (x.counts.passed + ((queue.filter cand).length - 1)) } ∧
       (∀ o, o ≠ st → t.stream o = s.stream o) ∧ t.plan.handoffs.get st = rest ∧
       t.store.releases = s.store.releases ++
         List.replicate (tiles - s.plan.openFor n st) (b, (s.buffer b).fill) ∧
       PortsKeep s t ∧ SameBut [.plan, .store, .tiles, .ports, .pins] s t) ∧
  (∀ (s : State) (st : StreamId) (n gen target tiles : Nat) (rest : List Handoff), s.AtRest →
     s.plan.handoffs.get st = .pick n gen target tiles :: rest → (∀ h, rest.head? = some h → h.isPick = true) →
     let x := s.stream st
     let owner : PortId := if st.val < 4 then .a else .b
     let starves := ∀ c, x.floor = some c → c < target
     (∀ i ∈ x.current ++ x.pending, (s.buffer i).frame.any (fun f => f.gen == gen && decide (f.number ≤ target)) = false) →
     ∃ t, exec (.pick st) s = .next t ∧
       (∀ b, x.lastPicked = some b → t.buffer b = { s.buffer b with refs := (s.buffer b).refs + tiles } ∧
         (∀ i, i ≠ b → t.buffer i = s.buffer i) ∧ (t.stream st).lastOutcome = some .again ∧
         t.store.releases = s.store.releases ++
           List.replicate (tiles - s.plan.openFor n st) (b, (s.buffer b).fill)) ∧
       (x.lastPicked = none → t.store.buffers = s.store.buffers ∧ (t.stream st).lastOutcome = some .black ∧
         t.store.releases = s.store.releases) ∧
       (starves → (t.stream st).starving = true ∧
         (t.stream st).counts = { x.counts with starve := min 65535 (x.counts.starve + 1) } ∧
         (x.starving = false → (s.port owner).link = .up → (t.port owner).notices.getLsbD 3 = true) ∧
         (x.starving = true → (t.port owner).notices = (s.port owner).notices)) ∧
       (¬ starves → (t.stream st).starving = false ∧ (t.stream st).counts = x.counts ∧
         (t.port owner).notices = (s.port owner).notices) ∧
       (t.stream st).current = x.current ∧ (t.stream st).pending = x.pending ∧ (t.stream st).floor = x.floor ∧
       (t.stream st).lastPicked = x.lastPicked ∧ t.plan.handoffs.get st = rest ∧ PortsKeep s t ∧
       SameBut [.plan, .store, .tiles, .ports, .pins] s t)

/-- The answer to a PICK fills the entry: in each entry of its refresh that still waits for the stream, every record
whose source is the stream names the buffer the pick answers, with its fill number and its frame's generation and
number, the other records keep theirs, and the entry is complete when no other stream's pick is unanswered. The other
entries keep their buffers and their completion. An entry leaves only when its boundary has been announced. With no
pick at the front of the list, PICK changes nothing (log 4). -/
def Obligations.PickAnswerFillsThePlanEntry : Prop :=
  (∀ (s : State) (st : StreamId) (n gen target tiles : Nat) (rest : List Handoff), s.AtRest →
    s.plan.handoffs.get st = .pick n gen target tiles :: rest →
    let ans := (s.store.pick st gen target tiles).buffer
    let waits := fun o : PlanEntry => o.refresh == n && !o.complete && o.unanswered.contains st
    ans ≠ .awaiting ∧
    (∀ b fill g c, ans = .buffer b fill g c → fill = (s.buffer b).fill ∧
      ∀ f, (s.buffer b).frame = some f → g = f.gen ∧ c = f.number) ∧
    ∃ t, exec (.pick st) s = .next t ∧
      (∀ e ∈ t.plan.entries, ∃ o ∈ s.plan.entries, e.refresh = o.refresh ∧ e.level = o.level ∧ e.dark = o.dark ∧
        e.records.map (fun r => (r.pos, r.source, r.x, r.y, r.level, r.buffer)) =
          o.records.map (fun r => (r.pos, r.source, r.x, r.y, r.level,
            if waits o = true ∧ r.source = .stream st then ans else r.buffer)) ∧
        (if waits o then
          e.unanswered = o.unanswered.filter (· != st) ∧ e.complete = e.unanswered.isEmpty
        else e.unanswered = o.unanswered ∧ e.complete = o.complete)) ∧
      ∀ o ∈ s.plan.entries, (∀ m, s.wall.newest = some m → m < o.refresh) →
        ∃ e ∈ t.plan.entries, e.refresh = o.refresh) ∧
  ∀ (s : State) (st : StreamId), s.AtRest → (∀ h, (s.plan.handoffs.get st).head? = some h → h.isPick = false) →
    exec (.pick st) s = .next s

/-- RELEASE that is in flight (log 27): a matching fill number takes one reference from the buffer, and at 0 it
becomes FREE, or RETIRED with cause INTEGRITY when it is bad; another fill number, or a count of 0, is ignored. A
RETIRED buffer keeps the rest of its record (log 36), and a FREE one its check value (log 46). -/
def Obligations.ReleaseDropsOneReference : Prop :=
  ∀ (s : State) (b : BufId) (fill : Nat), s.AtRest →
    ((b, fill) ∈ s.store.releases → ∃ t, exec (.release b fill) s = .next t ∧
      t.store.releases = s.store.releases.erase (b, fill) ∧ t.store.streams = s.store.streams ∧
      (∀ i, i ≠ b → t.buffer i = s.buffer i) ∧
      ((s.buffer b).fill = fill → 2 ≤ (s.buffer b).refs →
        t.buffer b = { s.buffer b with refs := (s.buffer b).refs - 1 }) ∧
      ((s.buffer b).fill = fill → (s.buffer b).refs = 1 → (s.buffer b).bad = false →
        t.buffer b = { s.buffer b with state := .free, frame := none, refs := 0, cause := none }) ∧
      ((s.buffer b).fill = fill → (s.buffer b).refs = 1 → (s.buffer b).bad = true →
        t.buffer b = { s.buffer b with state := .retired, refs := 0, cause := some .integrity }) ∧
      ((s.buffer b).fill ≠ fill ∨ (s.buffer b).refs = 0 → t.buffer b = s.buffer b) ∧
      PortsKeep s t ∧ SameBut [.store, .ports, .pins] s t) ∧
    ((b, fill) ∉ s.store.releases → exec (.release b fill) s = .next s)

/-- INTEGRITY_FAILURE at a tile that is sending from a buffer not yet bad: the buffer is bad and loses its last-picked
standing, the failure is captured or the overflow flag set, the wall error is set and STORE raised, and the dispatch
ends cut short with its release sent. At any other time it changes nothing (log 26): while no buffer is being read,
and while the buffer that is read is bad already. -/
def Obligations.IntegrityFailureCondemnsTheBuffer : Prop :=
  (∀ (s : State) (j : TileId) (n : Nat) (r : TileRecord) (ds : List Dispatch) (b : BufId)
      (fill gen number : Nat) (f : Frame), s.AtRest → (s.tile j).dispatches = { refresh := n, phase := .sending (.record r) true } :: ds →
    r.buffer = .buffer b fill gen number → (s.buffer b).bad = false → (s.buffer b).frame = some f →
    ∃ t, exec (.integrityFailure j) s = .next t ∧ (t.buffer b).bad = true ∧ (t.buffer b).fill = (s.buffer b).fill ∧
      ((s.stream f.stream).lastPicked = some b → (t.stream f.stream).lastPicked = none ∧
        (t.buffer b).refs = (s.buffer b).refs - 1) ∧
      ((s.stream f.stream).lastPicked ≠ some b → (t.buffer b).refs = (s.buffer b).refs) ∧
      (s.store.capture = none → t.store.capture = some
          { buffer := b, stream := f.stream, gen := f.gen, number := f.number, tile := j, refresh := n } ∧
        t.store.overflow = s.store.overflow) ∧
      (∀ c, s.store.capture = some c → t.store.capture = some c ∧ t.store.overflow = true) ∧
      t.store.failures = min 255 (s.store.failures + 1) ∧
      t.store.releases = s.store.releases ++ [(b, fill)] ∧
      (∃ more, (t.tile j).sent = (s.tile j).sent ++ .dispatchEnd n .blackEnd :: more) ∧
      (t.tile j).dispatches.map (·.refresh) = ds.map (·.refresh) ∧ (∀ i, i ≠ j → t.tile i = s.tile i) ∧
      t.triggers.error = { flag := true, count := min 65535 (s.triggers.error.count + 1),
                           cause := if s.triggers.error.flag then s.triggers.error.cause else some (.integrity b) } ∧
      (s.triggers.disableOnError = true → t.NoTriggers) ∧
      (s.triggers.disableOnError = false → t.triggers.triggers = s.triggers.triggers) ∧
      (∀ p, (s.port p).link = .up → (t.port p).notices.getLsbD 4 = true) ∧ PortsKeep s t ∧
      SameBut [.store, .tiles, .triggers, .ports, .pins] s t) ∧
  ∀ (s : State) (j : TileId), s.AtRest →
    (∀ n r ds b fill gen number, (s.tile j).dispatches = { refresh := n, phase := .sending (.record r) true } :: ds →
      r.buffer = .buffer b fill gen number → (s.buffer b).bad = true ∨ (s.buffer b).frame = none) →
    exec (.integrityFailure j) s = .next s

/-! ### Player links -/

/-- LINK_UP of a DOWN link: the link is UP with an empty queue, no notices and a mask of every kind, the queued frames
of its streams with flush on open set are flushed and counted, and a readiness message is sent. A link that is not
DOWN is left as it is (log 4). READINESS_MESSAGE: a readiness message that waits at an UP link is sent with the
readiness of the port's four streams as it stands then, local stream 0 in bit 0; nothing else changes. -/
def Obligations.LinkUpAndReadinessMessages : Prop :=
  (∀ (s : State) (p : PortId), s.AtRest →
     ((s.port p).link = .down → ∃ t, exec (.linkUp p) s = .next t ∧
       t.port p = { s.port p with link := .up, queue := [], inProgress := none, notices := 0, raises := .fill 8 0,
                                  mask := 0xFF, outbox := (s.port p).outbox ++ [.readiness (t.readyBits p)] } ∧
       (∀ st : StreamId, t.pins.ready.get st = t.streamReady st) ∧
       (∀ st : StreamId, if (st.val < 4 ↔ p = .a) ∧ (s.stream st).config.flushOpen = true then
           (let x := s.stream st
            t.stream st = { x with current := [], pending := [], counts := { x.counts with
              flushed := min 65535 (x.counts.flushed + (x.current ++ x.pending).length) } })
         else t.stream st = s.stream st) ∧
       SameBut [.store, .ports, .pins] s t) ∧
     ((s.port p).link ≠ .down → exec (.linkUp p) s = .next s)) ∧
  (∀ (s : State) (p : PortId), s.AtRest →
     ((s.port p).link = .up → ∃ bits : BitVec 4,
       (∀ i : Fin 4, bits.getLsbD i.val =
         s.streamReady ⟨i.val + (match p with | .a => 0 | .b => 4), by cases p <;> simp <;> omega⟩) ∧
       exec (.readinessMessage p) s = .next (s.modPort p fun q =>
         { q with outbox := q.outbox.map fun m => if m = .readinessDue then .readiness bits else m })) ∧
     ((s.port p).link ≠ .up → exec (.readinessMessage p) s = .next s))

/-- LINK_CLOSED, LINK_LOST and UNFRAMEABLE_MESSAGE take an UP link down with their cause: the queue, the request in
progress and the notices go, a hold of the port ends, a granted operation of the port goes on unanswered, and the
queues with flush on close set are flushed. On a link that is not UP, and for a type byte that can be framed, nothing
happens (log 4). No message is received inside a frame packet, an unframeable one neither (log 28). -/
def Obligations.LinkDownDropsThePlayersSide : Prop :=
  ∀ (s : State) (p : PortId) (c : Instr) (cause : DownCause), s.AtRest →
    (c = .linkClosed p ∧ cause = .closed ∨ c = .linkLost p ∧ cause = .lost ∨
      s.store.arrivals.get p = none ∧
        ∃ type : Byte, type ≠ 0x01 ∧ type ≠ 0x02 ∧ c = .unframeableMessage p type ∧ cause = .protocol) →
    ((s.port p).link = .up → ∃ t, exec c s = .next t ∧
      t.port p = { s.port p with link := .down, cause := some cause, queue := [], inProgress := none, notices := 0,
                                 raises := .fill 8 0, outbox := (s.port p).outbox.filter (· ≠ .readinessDue) } ∧
      (∀ st : StreamId, (st.val < 4 ↔ p = .a) → t.pins.ready.get st = false) ∧ t.pins.notice.get p = false ∧
      t.cues = { s.cues with hold := if s.cues.hold.any (fun h => h.holder == p) then none else s.cues.hold } ∧
      (∀ g : Grant, s.arbiter.granted = some g → t.arbiter.granted = some
        (if g.claimant = .port p then { g with answered := false } else g)) ∧
      t.store.arrivals.get p = none ∧
      (∀ b : BufId, s.store.arrivals.get p = some b → (t.buffer b).state = .free) ∧
      (∀ st : StreamId, (st.val < 4 ↔ p = .a) → (s.stream st).config.flushClose = true →
        (t.stream st).current = [] ∧ (t.stream st).pending = []) ∧
      (∀ st : StreamId, (t.stream st).lastPicked = (s.stream st).lastPicked ∧ (t.stream st).floor = (s.stream st).floor ∧
        (t.stream st).currentGen = (s.stream st).currentGen ∧ (t.stream st).config = (s.stream st).config) ∧
      SameBut [.cues, .arbiter, .store, .ports, .startup, .pins] s t) ∧
    ((s.port p).link ≠ .up → exec c s = .next s) ∧
    (exec (.unframeableMessage p 0x01) s = .next s ∧ exec (.unframeableMessage p 0x02) s = .next s) ∧
    (s.store.arrivals.get p ≠ none → ∀ type : Byte, exec (.unframeableMessage p type) s = .next s)

/-! ### Requests: arrival, refusal and reading -/

/-- A control message that arrives on an UP link: a kind outside the index or a body above 4096 bytes is refused RANGE
and a full queue answers QUEUE, none of them renewing the hold; while a request is in progress it waits at the end of
the queue; on a link that is not UP nothing arrives. A request taken in a wall state that its rule does not allow is
refused STATE with an empty body: the response is made, a hold of the port is renewed, and nothing else changes. POST
CUE and CANCEL CUE are refused by the arbiter's operation instead. That nothing arrives on a link that is not UP is as
log 31 says, that none is received inside a frame packet as log 28 says, and the refusal in STARTING and HALTED is log
22's. -/
def Obligations.ArrivingRequestsAreQueuedOrRefused : Prop :=
  (∀ (s : State) (p : PortId) (tag : Tag) (body : List Byte), s.AtRest →
     let said := fun (kind : Byte) (code : Code) =>
       s.modPort p fun q => { q with outbox := q.outbox ++ [.response kind tag code []] }
     ((s.port p).link = .up → s.store.arrivals.get p = none →
       (∀ kind : Byte, kind ∉ requestKinds → exec (.readClock p kind tag body) s = .next (said kind .range)) ∧
       ∀ k : ReqKind,
         (4096 < body.length → exec (k.command p tag body) s = .next (said k.code .range)) ∧
         (body.length ≤ 4096 → 4 ≤ (s.port p).queue.length → exec (k.command p tag body) s = .next (said k.code .queue)) ∧
         (body.length ≤ 4096 → (s.port p).queue.length < 4 → (s.port p).inProgress ≠ none →
           exec (k.command p tag body) s = .next
             (s.modPort p fun q => { q with queue := q.queue ++ [{ kind := k, tag := tag, body := body }] }))) ∧
     ((s.port p).link ≠ .up ∨ s.store.arrivals.get p ≠ none →
       (∀ k : ReqKind, exec (k.command p tag body) s = .next s) ∧
       ∀ kind : Byte, exec (.readClock p kind tag body) s = .next s)) ∧
  (∀ (s : State) (p : PortId) (k : ReqKind) (tag : Tag) (body : List Byte), s.Takes p body →
     k ≠ .postCue → k ≠ .cancelCue → k.takenIn s.wall.state = false →
     exec (k.command p tag body) s = .next (s.replied p k tag .state []))

/-- The read requests report at one instant and change nothing but the response made and the hold renewed. READ
CLOCK's fields stand in the order of its rule; the bodies of the others are those of the model's own report functions,
whose fields are not stated here. READ STREAM, READ INTEGRITY, READ TILE and READ TRIGGER: without the clear flag they
report and change nothing; with it the report is taken first and then the counts they name are cleared. READ STREAM's
clear of the other port's stream is refused OWNER. The byte forms of the bodies are partly the model's choice (log 15,
log 17, log 18, log 47, log 52, log 67, log 69, log 70, log 73). CUE STATUS of id 0 is answered as of an id not known
(log 62). -/
def Obligations.ReadsReportAndChangeNothing : Prop :=
  (∀ (s : State) (p : PortId) (tag : Tag) (body rest : List Byte), s.Takes p body → s.isServing = true →
     exec (.readClock p 0x01 tag body) s = .next (s.replied p .readClock tag .done
       (Wire.time s.wall.clock ++ Wire.bit (s.wall.clock == 2 ^ 48 - 1) ++ Wire.u8 s.wall.state.code ++
        Wire.u8 s.wall.rate ++ Wire.u16 (60000 / s.wall.rate) ++ Wire.u8 s.wall.horizon ++
        Wire.maybe Wire.time s.wall.epoch ++ Wire.maybe Wire.refresh s.wall.newest ++
        Wire.maybe Wire.refresh s.plan.newest)) ∧
     exec (.readMap p tag body) s = .next (s.replied p .readMap tag .done s.mapReport) ∧
     (∀ id, Wire.num 2 body = some (id, rest) →
       exec (.cueStatus p tag body) s = .next (s.replied p .cueStatus tag .done (s.cueStatusReport id))) ∧
     (∀ h, State.listFlags body = some (h, false) →
       exec (.listCues p tag body) s = .next (s.replied p .listCues tag .done (s.cueReport h))) ∧
     (∀ l : Option LayoutId, Wire.opt (Wire.num 1) body = some (l.map (·.val), rest) →
       exec (.readLayout p tag body) s = .next (s.replied p .readLayout tag .done
         (match l with | none => s.layoutCounts | some l => s.layoutReport l))) ∧
     (∀ st : Option StreamId, Wire.opt (Wire.num 1) body = some (st.map (·.val), rest) →
       exec (.readAdvert p tag body) s = .next (s.replied p .readAdvert tag .done (s.advertsReport st))) ∧
     (∀ n : Option Nat, Wire.opt (Wire.num 5) body = some (n, rest) →
       exec (.readPlan p tag body) s = .next (s.replied p .readPlan tag .done (s.planReport n))) ∧
     (∀ g : Option GroupId, Wire.opt (Wire.num 1) body = some (g.map (·.val), rest) →
       exec (.readStore p tag body) s = .next (s.replied p .readStore tag .done
         (s.storeReport (g.elim (List.finRange 10) ([·])))))) ∧
  (∀ (s : State) (p : PortId) (tag : Tag) (body rest rest' : List Byte) (clear : Bool), s.Takes p body →
     s.isServing = true →
     (∀ st : StreamId, Wire.num 1 body = some (st.val, rest) → Wire.flag rest = some (clear, rest') →
       exec (.readStream p tag body) s = .next
         (if clear = true ∧ ¬ (st.val < 4 ↔ p = .a) then s.replied p .readStream tag .owner []
          else { s.replied p .readStream tag .done (s.streamReport st) with
            store := if clear then { s.store with streams := s.store.streams.modify st fun x =>
              { x with counts := { accepted := 0, late := 0, stale := 0, crossed := 0, passed := 0, flushed := 0,
                                   starve := 0 } } } else s.store })) ∧
     (Wire.flag body = some (clear, rest) →
       exec (.readIntegrity p tag body) s = .next { s.replied p .readIntegrity tag .done s.integrityReport with
         store := if clear then { s.store with capture := none, overflow := false, failures := 0 } else s.store }) ∧
     (∀ j : Option TileId, Wire.opt (Wire.num 1) body = some (j.map (·.val), rest) → Wire.flag rest = some (clear, rest') →
       ∃ t, exec (.readTile p tag body) s = .next t ∧ t.cues = (s.renewHold p).cues ∧
         Served p .readTile tag .done ((j.elim (List.finRange 24) ([·])).flatMap s.tileReport) s t ∧
         (∀ i, t.tile i = if clear = true ∧ (j = none ∨ j = some i) then { s.tile i with totals := .zero } else s.tile i) ∧
         SameBut [.cues, .tiles, .ports] s t) ∧
     (∀ k : Option TriggerId, Wire.opt (Wire.num 1) body = some (k.map (·.val), rest) → Wire.flag rest = some (clear, rest') →
       ∃ t, exec (.readTrigger p tag body) s = .next t ∧ t.cues = (s.renewHold p).cues ∧
         Served p .readTrigger tag .done (s.triggersReport (k.elim (List.finRange 8) ([·]))) s t ∧
         (∀ i, t.trigger i =
           if clear = true ∧ (k = none ∨ k = some i) then { s.trigger i with fires := 0, merged := 0 } else s.trigger i) ∧
         (∀ i, t.triggers.timers.get i =
           if clear then { s.triggers.timers.get i with expiries := 0 } else s.triggers.timers.get i) ∧
         t.triggers.values = s.triggers.values ∧ t.triggers.posts = s.triggers.posts ∧
         t.triggers.error = s.triggers.error ∧ t.triggers.disableOnError = s.triggers.disableOnError ∧
         SameBut [.cues, .triggers, .ports] s t))

/-- READ LINES reports the common pulse width, the lit state, the lit schedule and all twelve line records in line
order, at one instant, and changes nothing; with its clear flag the rise, fall and pulse totals of every line become 0
after the report. The twelve records stand in the body without a count (log 15), the lit state is coded as log 64
says, and a stopped debounce count is absent (log 74). -/
def Obligations.ReadLinesReportsAllTwelveLines : Prop :=
  ∀ (s : State) (p : PortId) (tag : Tag) (body rest : List Byte) (clear : Bool), s.Takes p body →
    s.wall.state = .stopped ∨ s.wall.state = .running ∨ s.wall.state = .dark ∨ s.wall.state = .testing →
    Wire.flag body = some (clear, rest) →
    let field := fun l : LineId =>
      let x := s.line l
      Wire.u8 x.config.mode.code ++ Wire.u8 x.config.polarity.code ++ Wire.u8 x.config.pull.code ++
      Wire.u16 x.config.debounce ++ Wire.u8 x.config.dark.code ++ Wire.u8 x.config.commanded.code ++
      Wire.u8 (if x.rawHigh then 0 else 1) ++ Wire.u8 (if x.settled then 0 else 1) ++
      Wire.maybe Wire.u16 x.debounceCount ++ Wire.maybe Wire.u16 x.pulseCount ++
      Wire.u8 (s.pins.driven.get l).code ++ Wire.u16 x.rises ++ Wire.u16 x.falls ++ Wire.u16 x.pulses
    let report := Wire.u16 s.lines.pulseWidth ++ Wire.u8 (if s.lines.dark then 1 else 0) ++
      Wire.many (fun c : Nat × Bool => Wire.refresh c.1 ++ Wire.u8 (if c.2 then 1 else 0)) s.lines.schedule ++
      (List.finRange 12).flatMap field
    ∃ t, exec (.readLines p tag body) s = .next t ∧ t.cues = (s.renewHold p).cues ∧
      Served p .readLines tag .done report s t ∧
      (clear = false → t.lines = s.lines) ∧
      (clear = true → t.lines.pulseWidth = s.lines.pulseWidth ∧ t.lines.dark = s.lines.dark ∧
        t.lines.schedule = s.lines.schedule ∧
        ∀ l, t.line l = { s.line l with rises := 0, falls := 0, pulses := 0 }) ∧
      SameBut [.cues, .lines, .ports] s t

/-- READ NOTICES reports the pending set, the eight raise counts, the mask, the stray count and the last down cause;
the set then is empty, the raise counts are 0 and the notice line is deasserted, at its own port alone. SET NOTICE
MASK writes the mask, recomputes the notice line from the pending set, and answers the mask before and after and the
pending set; the pending set, the raise counts and the other port are not changed. The eight raise counts stand in the
body without a count (log 15), and the last down cause is coded as log 53 says. -/
def Obligations.NoticesAreReadAndMasked : Prop :=
  (∀ (s : State) (p : PortId) (tag : Tag) (body : List Byte), s.Takes p body →
     s.wall.state = .stopped ∨ s.wall.state = .running ∨ s.wall.state = .dark ∨ s.wall.state = .testing →
     let q := s.port p
     let report := Wire.u8 q.notices.toNat ++ q.raises.rows.flatMap Wire.u8 ++ Wire.u8 q.mask.toNat ++ Wire.u16 q.stray ++
       Wire.maybe (fun c => Wire.u8 (DownCause.code c)) q.cause
     ∃ t, exec (.readNotices p tag body) s = .next t ∧ t.cues = (s.renewHold p).cues ∧
       t.port p = { q with notices := 0, raises := .fill 8 0,
                           outbox := q.outbox ++ [.response 0x50 tag .done report] } ∧
       t.port p.other = s.port p.other ∧ t.pins = { s.pins with notice := s.pins.notice.set p false } ∧
       SameBut [.cues, .ports, .pins] s t) ∧
  (∀ (s : State) (p : PortId) (tag : Tag) (body rest : List Byte) (m : Nat), s.Takes p body →
     s.wall.state = .stopped ∨ s.wall.state = .running ∨ s.wall.state = .dark ∨ s.wall.state = .testing →
     Wire.num 1 body = some (m, rest) →
     let q := s.port p
     ∃ t, exec (.setNoticeMask p tag body) s = .next t ∧ t.cues = (s.renewHold p).cues ∧
       t.port p = { q with mask := BitVec.ofNat 8 m
                           outbox := q.outbox ++ [.response 0x51 tag .done
                             (Wire.u8 q.mask.toNat ++ Wire.u8 m ++ Wire.u8 q.notices.toNat)] } ∧
       t.port p.other = s.port p.other ∧
       t.pins = { s.pins with notice := s.pins.notice.set p (q.notices &&& BitVec.ofNat 8 m != 0) } ∧
       SameBut [.cues, .ports, .pins] s t)

/-! ### Requests that change the wall -/

/-- SET CLOCK in STOPPED writes the show time it carries and is answered with it; the CLOCK comparisons see the jump
as one evaluation. A body too short is refused RANGE. -/
def Obligations.SetClockWritesTheShowClock : Prop :=
  ∀ (s : State) (p : PortId) (tag : Tag) (body : List Byte), s.Takes p body → s.wall.state = .stopped →
    (∀ (time : Nat) (rest : List Byte), Wire.num 6 body = some (time, rest) →
      ∃ t, exec (.setClock p tag body) s = .next t ∧ t.wall = { s.wall with clock := time } ∧ time ≤ 2 ^ 48 - 1 ∧
        Served p .setClock tag .done (Wire.time time) s t ∧ t.cues = (s.renewHold p).cues ∧
        SameBut [.wall, .cues, .arbiter, .triggers, .lines, .ports, .pins] s t ∧
        (s.Unwatched .clock →
          (∀ k, t.trigger k = if (s.trigger k).defn.condition = .clock then (s.trigger k).evaluated (some time)
            else s.trigger k) ∧
          t.triggers = { s.triggers with triggers := t.triggers.triggers } ∧
          SameBut [.wall, .cues, .triggers, .ports] s t)) ∧
    (Wire.num 6 body = none → exec (.setClock p tag body) s = .next (s.replied p .setClock tag .range []))

/-- CONFIGURE WALL in STOPPED writes every field present: rate, horizon, arbiter groups, tile size, gaps and trims. A
raised horizon raises every limit below H + 2 and makes the answer CLAMPED, with the set of those streams (log 16); a
lowered one faults each LIVE tile that is deeper. With a group field present both rotations are set to their
cold-reset order for the new groups, and a claim that waits is then granted from them; with none present they stay. A
field outside its range is refused RANGE and changes nothing. -/
def Obligations.ConfigureWallWritesEveryFieldPresent : Prop :=
  ∀ (s : State) (p : PortId) (tag : Tag) (body : List Byte) (f : WallFields), s.Takes p body →
    s.wall.state = .stopped → Wire.wallFields body = some f →
    let h := f.horizon.getD s.wall.horizon
    let low := (List.finRange 8).filter fun st => decide (s.wall.horizon < h ∧ (s.stream st).config.limit < h + 2)
    (State.wallFieldsOk f = true → ∃ t, exec (.configureWall p tag body) s = .next t ∧
      t.wall = { s.wall with rate := f.rate.getD s.wall.rate, horizon := h } ∧
      t.layouts = { s.layouts with geometry := { s.layouts.geometry with
        tileW := f.tileW.getD s.layouts.geometry.tileW, tileH := f.tileH.getD s.layouts.geometry.tileH,
        gapH := f.gapH.getD s.layouts.geometry.gapH, gapV := f.gapV.getD s.layouts.geometry.gapV } } ∧
      (∀ j, t.plan.trims.get j =
        (((f.trims.getD []).find? fun x => x.1 == j.val).map (·.2)).getD (s.plan.trims.get j)) ∧
      t.arbiter.groups = State.newGroups f s.arbiter.groups ∧
      (s.arbiter.granted ≠ none ∨ ((∀ r, s.claimOf r = none) ∧ s.NoTriggers) →
        let of := fun g : ArbGroup => ([.port .a, .port .b, .console, .trigger] : List Requester).filter fun r =>
          (State.newGroups f s.arbiter.groups).get r == g
        ((∃ x ∈ f.groups, x ≠ none) →
          t.arbiter.high = (of .high).map .requester ++ [.lowGroup] ∧ t.arbiter.low = of .low) ∧
        ((∀ x ∈ f.groups, x = none) → t.arbiter = s.arbiter)) ∧
      (∀ st, (t.stream st).config = { (s.stream st).config with
        limit := if st ∈ low then h + 2 else (s.stream st).config.limit }) ∧
      (∀ j, (h < s.wall.horizon ∧ (s.tile j).state = .live ∧ ∃ d, (s.tile j).depth = some d ∧ h < d) →
        (t.tile j).state = .faulted ∧ (t.tile j).reason = some .depth ∧ (t.tile j).dispatches = []) ∧
      (∀ j, ¬ (h < s.wall.horizon ∧ (s.tile j).state = .live ∧ ∃ d, (s.tile j).depth = some d ∧ h < d) →
        t.tile j = s.tile j) ∧
      (low = [] → Served p .configureWall tag .done [] s t) ∧
      (low ≠ [] → Served p .configureWall tag .clamped (Wire.u8 (low.map fun st => 2 ^ st.val).sum) s t) ∧
      t.cues = (s.renewHold p).cues ∧
      SameBut [.wall, .cues, .arbiter, .layouts, .plan, .store, .tiles, .triggers, .lines, .ports, .pins] s t) ∧
    (State.wallFieldsOk f = false →
      exec (.configureWall p tag body) s = .next (s.replied p .configureWall tag .range []))

/-- RUN in STOPPED: the epoch is the first whole multiple of the refresh period after the show clock, the wall is
RUNNING, the plan is primed with black entries for refreshes 0 to H − 1, every LIVE tile is planned from refresh 0,
the lit schedule is empty, and WALL is raised at the other port. An epoch above 2^48−1 is refused RANGE. -/
def Obligations.RunSetsTheEpochAndPrimesThePlan : Prop :=
  ∀ (s : State) (p : PortId) (tag : Tag) (body : List Byte), s.Takes p body → s.wall.state = .stopped →
    let e := (s.wall.clock / s.period + 1) * s.period
    (e ≤ 2 ^ 48 - 1 → ∃ t, exec (.run p tag body) s = .next t ∧
      t.wall = { s.wall with epoch := some e, state := .running, newest := none } ∧
      Served p .run tag .done (Wire.time e) s t ∧
      t.plan.newest = (if s.wall.horizon = 0 then none else some (s.wall.horizon - 1)) ∧
      t.plan.entries.map (·.refresh) = List.range s.wall.horizon ∧
      (∀ x ∈ t.plan.entries, x.complete = true ∧ x.dark = false ∧ x.level = s.plan.level ∧
        x.records.map (·.pos) = ((List.finRange 24).filter fun j => (s.tile j).state == .live &&
          (s.tile j).depth.any fun d => decide (d ≤ x.refresh)) ∧
        ∀ r ∈ x.records, r.source = .black ∧ r.buffer = .black ∧ r.level = 0 ∧ r.disposition = .opened) ∧
      t.plan.level = s.plan.level ∧ t.plan.trims = s.plan.trims ∧ t.plan.ramp = s.plan.ramp ∧
      (∀ j, t.tile j = if (s.tile j).state = .live then { s.tile j with first := some 0 } else s.tile j) ∧
      t.lines.dark = false ∧ t.lines.schedule = [] ∧
      (s.linkUp p.other = true → (t.port p.other).notices.getLsbD 6 = true) ∧
      (s.NoTriggers → (t.port p).notices.getLsbD 6 = (s.port p).notices.getLsbD 6) ∧
      t.cues.hold = (s.renewHold p).cues.hold ∧
      SameBut [.wall, .cues, .arbiter, .plan, .store, .tiles, .triggers, .lines, .ports, .pins] s t) ∧
    (2 ^ 48 - 1 < e → exec (.run p tag body) s = .next (s.replied p .run tag .range []))

/-- RUN re-epochs the cue list: every cue takes its due refresh against the new epoch; one before H is moved to H when
it is SLIP, and leaves the list for the history as LATE when it is STRICT; the list then stands in order of due
refresh and sequence. -/
def Obligations.RunReEpochsTheCueList : Prop :=
  ∀ (s : State) (p : PortId) (tag : Tag) (body : List Byte), s.Takes p body → s.wall.state = .stopped →
    (s.cues.list.map (·.id)).Nodup →
    let e := (s.wall.clock / s.period + 1) * s.period
    let h := s.wall.horizon
    let due := fun c : Cue => if e < c.time then (c.time - e + s.period - 1) / s.period else 0
    let moved := fun c : Cue =>
      if due c < h ∧ c.late = .slip then { c with due := some h, time := min (e + h * s.period) (2 ^ 48 - 1) }
      else { c with due := some (due c) }
    let late := s.cues.list.filter fun c => decide (due c < h ∧ c.late = .strict)
    e ≤ 2 ^ 48 - 1 → ∃ t, exec (.run p tag body) s = .next t ∧
      (∀ c, c ∈ t.cues.list ↔ ∃ o ∈ s.cues.list, ¬ (due o < h ∧ o.late = .strict) ∧ c = moved o) ∧
      t.cues.list.length + late.length = s.cues.list.length ∧
      t.cues.list.Pairwise (fun a b => a.due.getD 0 < b.due.getD 0 ∨ (a.due.getD 0 = b.due.getD 0 ∧ a.seq ≤ b.seq)) ∧
      (s.cues.history.length + late.length ≤ 32 → t.cues.history = s.cues.history ++ late.map fun c =>
        { id := c.id, owner := c.owner, kind := c.kind, outcome := .late, refresh := some (due c) }) ∧
      t.cues.nextId = s.cues.nextId

/-- STOP in RUNNING or DARK: the wall is STOPPED with no epoch; the plan is emptied, with one release for every OPEN
record and every dispatch that names a buffer; a ramp is completed; the adverts end; every cue loses its due refresh
and is ARMED; the tiles' dispatches and awaiting reports go; and every stream loses its current generation and
last-picked frame. The order of the blocks is the model's choice (log 32). -/
def Obligations.StopEndsTheRun : Prop :=
  ∀ (s : State) (p : PortId) (tag : Tag) (body : List Byte), s.Takes p body →
    s.wall.state = .running ∨ s.wall.state = .dark →
    ∃ t, exec (.stop p tag body) s = .next t ∧
      t.wall = { s.wall with epoch := none, state := .stopped, newest := none } ∧ Served p .stop tag .done [] s t ∧
      t.plan = { s.plan with entries := [], newest := none, ramp := none, handoffs := .fill 8 [],
                             level := (s.plan.ramp.map (·.target)).getD s.plan.level } ∧
      t.adverts = .fill 8 none ∧
      (∀ c, c ∈ t.cues.list ↔ ∃ o ∈ s.cues.list, c = { o with due := none, waiting := false }) ∧
      t.cues.list.Pairwise (fun a b => a.time < b.time ∨ (a.time = b.time ∧ a.seq ≤ b.seq)) ∧
      t.cues.history = s.cues.history ∧ t.cues.hold = (s.renewHold p).cues.hold ∧
      (∀ j, t.tile j = { s.tile j with dispatches := [], awaiting := [], first := none }) ∧
      t.store.releases = s.store.releases ++
        (s.plan.entries.flatMap fun x => (x.records.filter fun r => r.disposition == .opened).filterMap TileRecord.named) ++
        ((List.finRange 24).flatMap fun j => (s.tile j).dispatches.flatMap Dispatch.owed) ∧
      (∀ st, (t.stream st).currentGen = none ∧ (t.stream st).currentLength = none ∧ (t.stream st).currentMode = none ∧
        (t.stream st).lastPicked = none ∧ (t.stream st).floor = none ∧ (t.stream st).lastOutcome = none ∧
        (t.stream st).starving = true ∧ (t.stream st).current = [] ∧ (t.stream st).config = (s.stream st).config) ∧
      (∀ st, t.triggers.values.get st = none) ∧ t.lines.dark = false ∧ t.lines.schedule = [] ∧
      (s.linkUp p.other = true → (t.port p.other).notices.getLsbD 6 = true) ∧
      SameBut [.wall, .cues, .arbiter, .adverts, .plan, .store, .tiles, .triggers, .lines, .ports, .pins] s t

/-- WIPE in STOPPED, RUNNING or DARK: the wall is STOPPED; the cue list, the history, the hold, the adverts, the plan,
the wall map, the frame store but for RETIRED buffers and configurations, the tiles' runs and totals, the timers, the
wall error and the lit schedule are as a wipe leaves them; triggers are disabled and keep their definitions; the
layouts, the trims and the show clock stay; WALL is raised at both ports. -/
def Obligations.WipeEmptiesTheWall : Prop :=
  ∀ (s : State) (p : PortId) (tag : Tag) (body : List Byte), s.Takes p body →
    s.wall.state = .stopped ∨ s.wall.state = .running ∨ s.wall.state = .dark →
    ∃ t, exec (.wipe p tag body) s = .next t ∧
      t.wall = { s.wall with epoch := none, state := .stopped, newest := none } ∧ Served p .wipe tag .done [] s t ∧
      t.cues = { s.cues with list := [], history := [], hold := none, nextSeq := 1, pendingGen := .fill 8 none } ∧
      t.layouts = { s.layouts with map := .fill 24 .black, lastTake := none } ∧ t.adverts = .fill 8 none ∧
      t.plan.entries = [] ∧ t.plan.newest = none ∧ t.plan.ramp = none ∧ t.plan.trims = s.plan.trims ∧
      t.plan.level = (s.plan.ramp.map (·.target)).getD s.plan.level ∧
      (∀ st, t.stream st = { Stream.reset with config := (s.stream st).config }) ∧
      (∀ b, (∀ st, b ∉ (s.stream st).current ++ (s.stream st).pending) →
        ((s.buffer b).state = .retired → t.buffer b = s.buffer b) ∧
        ((s.buffer b).state ≠ .retired → (s.buffer b).bad = true →
          (t.buffer b).state = .retired ∧ (t.buffer b).cause = some .integrity)) ∧
      (∀ b, (s.buffer b).state ≠ .retired → (s.buffer b).bad = false →
        (t.buffer b).state = .free ∧ (t.buffer b).refs = 0) ∧
      (∀ b, (t.buffer b).fill = (s.buffer b).fill) ∧
      t.store.capture = none ∧ t.store.overflow = false ∧ t.store.failures = 0 ∧ t.store.arrivals = { a := none, b := none } ∧
      (∀ j, t.tile j = { s.tile j with dispatches := [], awaiting := [], first := none, missRun := 0, totals := .zero }) ∧
      (∀ k, (t.trigger k).enabled = false ∧ (t.trigger k).defn = (s.trigger k).defn ∧ (t.trigger k).fires = 0 ∧
        (t.trigger k).merged = 0 ∧ (t.trigger k).lastFire = none ∧ (t.trigger k).markSaturated = false ∧
        (t.trigger k).postPending = (s.trigger k).postPending ∧ (t.trigger k).lastPost = (s.trigger k).lastPost) ∧
      (∀ i, (t.triggers.timers.get i).running = false ∧ (t.triggers.timers.get i).expiries = 0) ∧
      t.triggers.error = { flag := false, cause := none, count := 0 } ∧ t.triggers.posts = s.triggers.posts ∧
      t.triggers.disableOnError = s.triggers.disableOnError ∧
      t.lines = { s.lines with dark := false, schedule := [] } ∧
      (∀ q, (s.port q).link = .up → (t.port q).notices.getLsbD 6 = true) ∧
      SameBut [.wall, .cues, .layouts, .adverts, .plan, .store, .tiles, .triggers, .lines, .ports, .pins] s t

/-! ### Requests about cues and layouts -/

/-- POST CUE and CANCEL CUE become the port's claim, with no response yet: granted at once while no operation is in
progress and the port stands in its rotation, and waiting otherwise. The arbiter grants in its rotations: while no
operation is in progress and claims wait, the first member of the high rotation with a claim is granted and goes to
the end of it; when that member is the LOW group, the first requester of the low rotation with a claim is granted and
both go to the end of their rotations. When in a command a grant is made is the model's choice (log 30). -/
def Obligations.ClaimsWaitAndAreGrantedInRotation : Prop :=
  (∀ (s : State) (p : PortId) (tag : Tag) (body : List Byte) (k : ReqKind) (op : ClaimOp), s.Takes p body →
     (k = .postCue ∧ op = .post (Wire.post body) ∨ k = .cancelCue ∧ op = .cancel ((Wire.num 2 body).map (·.1))) →
     ∃ t, exec (k.command p tag body) s = .next t ∧ t.cues = (s.renewHold p).cues ∧
       t.port p.other = s.port p.other ∧ SameBut [.cues, .arbiter, .ports] s t ∧
       (∀ g, s.arbiter.granted = some g → t.arbiter = s.arbiter ∧
         t.port p = { s.port p with
           inProgress := some { request := { kind := k, tag := tag, body := body }, granted := false } }) ∧
       (s.arbiter.granted = none →
         HighMember.requester (.port p) ∈ s.arbiter.high ∨
           (.port p ∈ s.arbiter.low ∧ HighMember.lowGroup ∈ s.arbiter.high) →
         t.arbiter.granted = some { claimant := .port p, op := op, answered := true } ∧
         t.port p = { s.port p with
           inProgress := some { request := { kind := k, tag := tag, body := body }, granted := true } })) ∧
  (∀ (s : State), s.arbiter.granted = none →
     (∀ (pre post : List HighMember) (r : Requester) (c : ClaimFrom) (op : ClaimOp),
       s.arbiter.high = pre ++ .requester r :: post → s.arbiter.high.Nodup → s.claimOf r = some (c, op) →
       (∀ x, .requester x ∈ pre → s.claimOf x = none) →
       (.lowGroup ∈ pre → ∀ x ∈ s.arbiter.low, s.claimOf x = none) →
       s.settle.arbiter.granted = some { claimant := c, op := op, answered := true } ∧
       s.settle.arbiter.high = pre ++ post ++ [.requester r] ∧ s.settle.arbiter.low = s.arbiter.low) ∧
     (∀ (pre post : List HighMember) (lpre lpost : List Requester) (r : Requester) (c : ClaimFrom) (op : ClaimOp),
       s.arbiter.high = pre ++ .lowGroup :: post → s.arbiter.high.Nodup → s.arbiter.low = lpre ++ r :: lpost →
       s.arbiter.low.Nodup → s.claimOf r = some (c, op) → (∀ x, .requester x ∈ pre → s.claimOf x = none) →
       (∀ x ∈ lpre, s.claimOf x = none) →
       s.settle.arbiter.granted = some { claimant := c, op := op, answered := true } ∧
       s.settle.arbiter.high = pre ++ post ++ [.lowGroup] ∧ s.settle.arbiter.low = lpre ++ lpost ++ [r]))

/-- LIST CUES with the hold flag: with no holder the port takes the hold for 120,000 ticks and HOLD is raised at the
other port; as holder it renews it; while the other port holds it the answer is HELD, and in TESTING it is STATE.
RELEASE HOLD ends the hold of the port that holds it and is refused OWNER otherwise. -/
def Obligations.TheEditHoldIsTakenRenewedAndReleased : Prop :=
  ∀ (s : State) (p : PortId) (tag : Tag) (body : List Byte) (h : Bool), s.Takes p body → s.isServing = true →
    let mine : Hold := { holder := p, lapse := 120000 }
    (s.wall.state = .testing → State.listFlags body = some (h, true) →
      exec (.listCues p tag body) s = .next (s.replied p .listCues tag .state [])) ∧
    (s.wall.state ≠ .testing → State.listFlags body = some (h, true) →
      (s.cues.hold = none → ∃ t, exec (.listCues p tag body) s = .next t ∧
        t.cues = { s.cues with hold := some mine } ∧ Served p .listCues tag .done (t.cueReport h) s t ∧
        (t.port p).notices = (s.port p).notices ∧
        (s.linkUp p.other = true → (t.port p.other).notices.getLsbD 5 = true) ∧ SameBut [.cues, .ports, .pins] s t) ∧
      ((∃ n, s.cues.hold = some { holder := p, lapse := n }) →
        exec (.listCues p tag body) s = .next
          ({ s with cues := { s.cues with hold := some mine } }.replied p .listCues tag .done (s.cueReport h))) ∧
      ((∃ n, s.cues.hold = some { holder := p.other, lapse := n }) →
        exec (.listCues p tag body) s = .next (s.replied p .listCues tag .held []))) ∧
    ((∃ n, s.cues.hold = some { holder := p, lapse := n }) →
      exec (.releaseHold p tag body) s = .next
        ({ s with cues := { s.cues with hold := none } }.replied p .releaseHold tag .done [])) ∧
    ((∀ n, s.cues.hold ≠ some { holder := p, lapse := n }) →
      exec (.releaseHold p tag body) s = .next (s.replied p .releaseHold tag .owner []))

/-- DEFINE LAYOUT replaces the pane list of its layout whole, and answers the layout, the number of panes, the
positions each spans, and the cues that name the layout. The other port's hold makes it HELD, and a layout or pane
outside its range RANGE; both change nothing. The number of panes stands in the body once, as field and count (log
15). -/
def Obligations.DefineLayoutReplacesThePanes : Prop :=
  ∀ (s : State) (p : PortId) (tag : Tag) (body : List Byte), s.Takes p body → s.isEditable = true →
    (∀ (l : LayoutId) (raw : List RawPane) (panes : List Pane), (∀ n, s.cues.hold ≠ some { holder := p.other, lapse := n }) →
      Wire.layoutFields body = some (l.val, raw) → checkPanes raw = some panes →
      exec (.defineLayout p tag body) s = .next
        ({ s with layouts := { s.layouts with table := s.layouts.table.set l panes } }.replied p .defineLayout tag .done
          (Wire.u8 l.val ++ Wire.u8 panes.length ++
           panes.flatMap (fun x => Wire.u8 (s.layouts.geometry.spanned x).length) ++
           Wire.u8 (s.cues.list.filter fun c : Cue => match c.kind with | .takeLayout k => k == l | _ => false).length))) ∧
    ((∃ n, s.cues.hold = some { holder := p.other, lapse := n }) →
      exec (.defineLayout p tag body) s = .next (s.replied p .defineLayout tag .held [])) ∧
    ((∀ n, s.cues.hold ≠ some { holder := p.other, lapse := n }) →
      (Wire.layoutFields body = none ∨ ∃ l raw, Wire.layoutFields body = some (l, raw) ∧
        (15 < l ∨ 8 < raw.length ∨ ∃ x ∈ raw, 8 < x.source ∨ 7 < x.col ∨ 5 < x.row ∨ x.width = 0 ∨ 8 < x.width ∨
          x.height = 0 ∨ 6 < x.height)) →
      exec (.defineLayout p tag body) s = .next (s.replied p .defineLayout tag .range []))

/-! ### Requests about streams, tiles and lines -/

/-- CONFIGURE STREAM in STOPPED at its own port writes every field present, with the limit raised to H + 2; a change
of size flushes the queue, and frames beyond the new limit are flushed from its end. The other port's stream is
refused OWNER; a limit below the number of HELD buffers is refused STATE. The answer gives each flush flag as a byte,
01h where it is on (log 15), and it gives the five settings alone (log 68). -/
def Obligations.ConfigureStreamWritesAndFlushes : Prop :=
  ∀ (s : State) (p : PortId) (tag : Tag) (body rest : List Byte) (st : StreamId), s.Takes p body →
    s.wall.state = .stopped → Wire.num 1 body = some (st.val, rest) →
    let x := s.stream st
    let queue := x.current ++ x.pending
    let held := ((List.finRange 48).filter fun b => (s.buffer b).state == .held &&
      (s.buffer b).frame.any fun f => f.stream == st).length
    (¬ (st.val < 4 ↔ p = .a) →
      exec (.configureStream p tag body) s = .next (s.replied p .configureStream tag .owner [])) ∧
    ∀ f : StreamFields, (st.val < 4 ↔ p = .a) → Wire.streamFields rest = some f → (∀ w, f.width = some w → w ≤ 8192) →
      (∀ h, f.height = some h → h ≤ 8192) → (∀ q, f.limit = some q → 2 ≤ q ∧ q ≤ 16) →
      let asked := f.limit.getD x.config.limit
      let c : StreamConfig :=
        { width := f.width.getD x.config.width, height := f.height.getD x.config.height,
          limit := max asked (s.wall.horizon + 2), flushOpen := f.flushOpen.getD x.config.flushOpen,
          flushClose := f.flushClose.getD x.config.flushClose }
      (c.limit < held →
        exec (.configureStream p tag body) s = .next (s.replied p .configureStream tag .state [])) ∧
      (held ≤ c.limit → queue.Nodup → (∀ b ∈ queue, (s.buffer b).state = .queued) →
        ∃ t, exec (.configureStream p tag body) s = .next t ∧ (t.stream st).config = c ∧
          Served p .configureStream tag (if asked < s.wall.horizon + 2 then .clamped else .done)
            (Wire.u16 c.width ++ Wire.u16 c.height ++ Wire.u8 c.limit ++ Wire.bit c.flushOpen ++ Wire.bit c.flushClose)
            s t ∧
          (c.width ≠ x.config.width ∨ c.height ≠ x.config.height →
            (t.stream st).current = [] ∧ (t.stream st).pending = [] ∧ ∀ b ∈ queue, (t.buffer b).state = .free) ∧
          (c.width = x.config.width → c.height = x.config.height →
            (t.stream st).current ++ (t.stream st).pending = queue.take (c.limit - held) ∧
            ∀ b ∈ queue.drop (c.limit - held), (t.buffer b).state = .free) ∧
          (∀ b, b ∉ queue → t.buffer b = s.buffer b) ∧ (∀ i, i ≠ st → t.stream i = s.stream i) ∧
          t.cues = (s.renewHold p).cues ∧ SameBut [.cues, .store, .ports, .pins] s t)

/-- REVIVE TILE of a FAULTED tile: the reason and the miss run are cleared, and the tile enters TRAINING with a new
request and count, or DOWN when its link is down; the answer is the new state. A tile that is not FAULTED is refused
STATE with its state, and a position above 23 RANGE. -/
def Obligations.ReviveTileRetrainsAFaultedTile : Prop :=
  ∀ (s : State) (p : PortId) (tag : Tag) (body rest : List Byte), s.Takes p body → s.isServing = true →
    (∀ j : TileId, Wire.num 1 body = some (j.val, rest) →
      ((s.tile j).state = .faulted → ∃ t, exec (.reviveTile p tag body) s = .next t ∧
        t.tile j = (if (s.tile j).linkUp then
            { s.tile j with state := .training, reason := none, missRun := 0, training := some 60000,
                            helloDepth := none, depth := none, sent := (s.tile j).sent ++ [.trainingRequest] }
          else { s.tile j with state := .down, reason := none, missRun := 0, helloDepth := none, depth := none }) ∧
        (∀ i, i ≠ j → t.tile i = s.tile i) ∧
        Served p .reviveTile tag .done (Wire.u8 (if (s.tile j).linkUp then 2 else 1)) s t ∧
        t.cues = (s.renewHold p).cues ∧ SameBut [.cues, .tiles, .ports] s t) ∧
      ((s.tile j).state ≠ .faulted → exec (.reviveTile p tag body) s = .next
        (s.replied p .reviveTile tag .state (Wire.u8 (s.tile j).state.code)))) ∧
    (∀ n, Wire.num 1 body = some (n, rest) → 23 < n →
      exec (.reviveTile p tag body) s = .next (s.replied p .reviveTile tag .range []))

/-- SET LINE writes every field present of its line, and the common pulse width: a change into INPUT or of polarity
there retakes the settled level with no edge, leaving INPUT stops the debounce count (log 33), leaving OUTPUT ends a
pulse; the answer is the line's resulting record. A line above 11, or a line field without a line, is refused RANGE. A
body without a line is answered empty (log 15). -/
def Obligations.SetLineWritesSettingsAndRetakes : Prop :=
  ∀ (s : State) (p : PortId) (tag : Tag) (body : List Byte) (f : LineFields), s.Takes p body → s.isServing = true →
    Wire.lineFields body = some f →
    let width := f.width.getD s.lines.pulseWidth
    let widthOk := ∀ w, f.width = some w → w ∈ [30, 60, 120, 300, 600, 1200, 3000, 6000]
    (∀ (l : LineId) (c : LineConfig), widthOk → f.line = some l.val → State.newLineConfig f (s.line l).config = some c →
      let x := s.line l
      let level := if c.polarity = .activeHigh then x.rawHigh else !x.rawHigh
      let retakes := c.mode = .input ∧ (x.config.mode ≠ .input ∨ c.polarity ≠ x.config.polarity)
      ∃ t, exec (.setLine p tag body) s = .next t ∧
        t.line l = { x with
          config := c
          settled := if retakes then level else x.settled
          debounceCount := if c.mode = .input ∧ ¬ retakes then x.debounceCount else none
          pulseCount := if c.mode = .output then x.pulseCount else none } ∧
        (∀ i, i ≠ l → t.line i = s.line i) ∧ t.lines = { s.lines with lines := t.lines.lines, pulseWidth := width } ∧
        Served p .setLine tag .done (t.lineReport l) s t ∧ t.cues = (s.renewHold p).cues ∧
        SameBut [.cues, .lines, .ports, .pins] s t) ∧
    (widthOk → f = { f with line := none, mode := none, polarity := none, pull := none, debounce := none, dark := none,
                            commanded := none } →
      exec (.setLine p tag body) s = .next
        ({ s with lines := { s.lines with pulseWidth := width } }.replied p .setLine tag .done [])) ∧
    (¬ widthOk ∨ (∃ l, f.line = some l ∧ 11 < l) ∨ (f.line = none ∧ State.hasLineField f = true) ∨
      (∃ l : LineId, f.line = some l.val ∧ State.newLineConfig f (s.line l).config = none) →
      exec (.setLine p tag body) s = .next (s.replied p .setLine tag .range []))

/-! ### Requests about timers and triggers -/

/-- START TIMER starts timer 0 or 1 with the sending port as starter, a start value of 0 raised to 1 and then answered
CLAMPED; STOP TIMER stops it and answers the state it was in; both carry the resulting record; another timer is
refused RANGE. A trigger's timers part starts and stops them in the same way, with the trigger as starter. The byte
form of the record is partly the model's choice (log 15), and so is a STOPPED timer's count of 0 (log 59). -/
def Obligations.TimersAreStartedAndStopped : Prop :=
  (∀ (s : State) (p : PortId) (tag : Tag) (body rest : List Byte), s.Takes p body →
    s.wall.state = .stopped ∨ s.wall.state = .running ∨ s.wall.state = .dark ∨ s.wall.state = .testing →
    let record := fun x : Timer => Wire.u8 (if x.running then 1 else 0) ++ Wire.u32 x.count ++ Wire.u32 x.start ++
      Wire.bit x.rep ++ Wire.u16 x.expiries ++ Wire.maybe (fun w => Wire.u8 (State.starterCode w)) x.starter
    let with_ := fun (i : TimerId) (x : Timer) =>
      { s with triggers := { s.triggers with timers := s.triggers.timers.set i x } }
    (∀ i : TimerId, Wire.num 1 body = some (i.val, rest) →
      (∀ (v : Nat) (rest' rest'' : List Byte) (rep : Bool), Wire.num 4 rest = some (v, rest') →
        Wire.flag rest' = some (rep, rest'') →
        let x : Timer := { s.triggers.timers.get i with
          running := true, count := max v 1, start := max v 1, rep := rep, starter := some (.port p) }
        exec (.startTimer p tag body) s = .next
          ((with_ i x).replied p .startTimer tag (if v = 0 then .clamped else .done) (record x))) ∧
      (let old := s.triggers.timers.get i
       let x : Timer := { old with running := false, count := 0 }
       exec (.stopTimer p tag body) s = .next ((with_ i x).replied p .stopTimer tag .done
         (Wire.u8 (if old.running then 1 else 0) ++ record x)))) ∧
    (∀ n, Wire.num 1 body = some (n, rest) → 1 < n →
      exec (.startTimer p tag body) s = .next (s.replied p .startTimer tag .range []) ∧
      exec (.stopTimer p tag body) s = .next (s.replied p .stopTimer tag .range []))) ∧
  ∀ (k : TriggerId) (x : Timer) (v : Nat) (rep : Bool),
    Timer.act k (.start v rep) x = { x with running := true, count := v, start := v, rep := rep,
                                            starter := some (.trigger k) } ∧
    Timer.act k .stop x = { x with running := false, count := 0 } ∧ Timer.act k .none x = x

/-- SET TRIGGER of a disabled trigger writes the definition it carries, timer start values of 0 raised to 1 and then
answered CLAMPED, clears the mark saturated flag and retakes the last value of a comparison without firing; everything
else of the trigger stays. An enabled trigger is refused STATE, and a definition outside its sets RANGE. The byte form
of the definition is partly the model's choice (log 15, log 56), and so is the refusal of a mark too many (log 65). A
patience with gate NONE is stored as carried (log 71). -/
def Obligations.SetTriggerReplacesTheDefinition : Prop :=
  ∀ (s : State) (p : PortId) (tag : Tag) (body rest : List Byte) (k : TriggerId), s.Takes p body → s.isEditable = true →
    Wire.num 1 body = some (k.val, rest) →
    ((s.trigger k).enabled = true →
      exec (.setTrigger p tag body) s = .next (s.replied p .setTrigger tag .state [])) ∧
    ((s.trigger k).enabled = false →
      (Wire.triggerDef rest = none ∨ (∃ d x, Wire.triggerDef rest = some d ∧ d.action.post = some x ∧
        State.postPartOk x = false)) →
      exec (.setTrigger p tag body) s = .next (s.replied p .setTrigger tag .range [])) ∧
    ∀ d : TriggerDef, (s.trigger k).enabled = false → Wire.triggerDef rest = some d →
      (∀ x, d.action.post = some x → State.postPartOk x = true) →
      let raised := fun a : TimerAct => match a with | .start v rep => .start (max v 1) rep | a => a
      let stored : TriggerDef := { d with action := { d.action with
        timers := d.action.timers.map fun x => (raised x.1, raised x.2) } }
      let x : Trigger := { s.trigger k with defn := stored, markSaturated := false }
      ∃ t, exec (.setTrigger p tag body) s = .next t ∧
        t.trigger k = (if stored.condition.isComparison then x.evaluated (stored.condition.value s) else x) ∧
        (∀ i, i ≠ k → t.trigger i = s.trigger i) ∧ t.triggers = { s.triggers with triggers := t.triggers.triggers } ∧
        Served p .setTrigger tag (if stored = d then .done else .clamped) (State.defReport stored) s t ∧
        t.cues = (s.renewHold p).cues ∧ SameBut [.cues, .triggers, .ports] s t

/-- ENABLE TRIGGERS sets the enabled flag of each trigger named and retakes the last value of each comparison among
them; under disable on error with the wall error set it is refused ERROR; DISABLE TRIGGERS clears the flags. Both
answer the enabled flags of all eight, as one set (log 72), and an empty mask is refused RANGE. CLEAR ERROR clears the
wall error and answers the record as it stood, its flag as a byte (log 15), with every ERROR line driven INACTIVE and
no trigger enabled. SET ERROR POLICY writes disable on error, and setting it while the error is set disables every
trigger. -/
def Obligations.TriggersAreEnabledAndTheErrorCleared : Prop :=
  (∀ (s : State) (p : PortId) (tag : Tag) (body rest : List Byte) (n : Nat), s.Takes p body → s.isEditable = true →
     Wire.num 1 body = some (n, rest) →
     (n = 0 → exec (.enableTriggers p tag body) s = .next (s.replied p .enableTriggers tag .range []) ∧
       exec (.disableTriggers p tag body) s = .next (s.replied p .disableTriggers tag .range [])) ∧
     (n ≠ 0 → s.triggers.disableOnError = true → s.triggers.error.flag = true →
       exec (.enableTriggers p tag body) s = .next (s.replied p .enableTriggers tag .error [])) ∧
     (n ≠ 0 → s.triggers.disableOnError = false ∨ s.triggers.error.flag = false →
       ∃ t, exec (.enableTriggers p tag body) s = .next t ∧
         (∀ k, t.trigger k =
           if n.testBit k.val then
             (if (s.trigger k).defn.condition.isComparison then
               { s.trigger k with enabled := true }.evaluated ((s.trigger k).defn.condition.value s)
             else { s.trigger k with enabled := true })
           else s.trigger k) ∧
         t.triggers = { s.triggers with triggers := t.triggers.triggers } ∧
         Served p .enableTriggers tag .done
           (Wire.u8 ((List.finRange 8).map fun k => if (t.trigger k).enabled then 2 ^ k.val else 0).sum) s t ∧
         t.cues = (s.renewHold p).cues ∧ SameBut [.cues, .triggers, .ports] s t) ∧
     (n ≠ 0 → ∃ t, exec (.disableTriggers p tag body) s = .next t ∧
       (∀ k, t.trigger k = if n.testBit k.val then { s.trigger k with enabled := false } else s.trigger k) ∧
       t.triggers = { s.triggers with triggers := t.triggers.triggers } ∧
       Served p .disableTriggers tag .done
         (Wire.u8 ((List.finRange 8).map fun k => if (t.trigger k).enabled then 2 ^ k.val else 0).sum) s t ∧
       t.cues = (s.renewHold p).cues ∧ SameBut [.cues, .triggers, .ports] s t)) ∧
  (∀ (s : State) (p : PortId) (tag : Tag) (body rest : List Byte), s.Takes p body →
     (s.isServing = true → ∃ t, exec (.clearError p tag body) s = .next t ∧
       t.triggers = { s.triggers with error := { flag := false, cause := none, count := 0 } } ∧
       Served p .clearError tag .done
         (Wire.bit s.triggers.error.flag ++ Wire.maybe State.causeReport s.triggers.error.cause ++
           Wire.u16 s.triggers.error.count) s t ∧
       (∀ l, (s.line l).config.mode = .error → t.pins.driven.get l = .inactive) ∧ t.cues = (s.renewHold p).cues ∧
       SameBut [.cues, .triggers, .ports, .pins] s t) ∧
     (s.isEditable = true → ∀ on : Bool, Wire.flag body = some (on, rest) →
       ∃ t, exec (.setErrorPolicy p tag body) s = .next t ∧ t.triggers.disableOnError = on ∧
         t.triggers.error = s.triggers.error ∧ t.triggers.timers = s.triggers.timers ∧
         t.triggers.posts = s.triggers.posts ∧ t.triggers.values = s.triggers.values ∧
         (∀ k, t.trigger k = if on = true ∧ s.triggers.error.flag = true then { s.trigger k with enabled := false }
           else s.trigger k) ∧
         Served p .setErrorPolicy tag .done [] s t ∧ t.cues = (s.renewHold p).cues ∧
         SameBut [.cues, .triggers, .ports] s t) ∧
     (s.isEditable = true → Wire.flag body = none →
       exec (.setErrorPolicy p tag body) s = .next (s.replied p .setErrorPolicy tag .range [])))

/-- FIRE TRIGGERS naming one trigger. Fired, the trigger counts, writes its last fire, is disabled under ONCE, and its
parts act in order: marks, timers, lines, post, notices; its chain fires each enabled trigger of its set once, one
level deep. A disabled trigger is passed over. The set answered names the triggers fired by the request itself (log
58), and a timer stopped has a count of 0 (log 59). -/
def Obligations.FireTriggersFiresTheTriggerNamed : Prop :=
  ∀ (s : State) (p : PortId) (tag : Tag) (body rest : List Byte) (k : TriggerId), s.Takes p body → s.isEditable = true →
    Wire.num 1 body = some (2 ^ k.val, rest) →
    let x := s.trigger k
    let a := x.defn.action
    let rises := fun n => min 65535 (n + 1)
    (x.enabled = false → exec (.fireTriggers p tag body) s = .next (s.replied p .fireTriggers tag .done [0])) ∧
    (x.enabled = true → a.marks = none → a.chain = none → ∃ t, exec (.fireTriggers p tag body) s = .next t ∧
      t.trigger k = { x with
        enabled := !x.defn.once, fires := rises x.fires, lastFire := some (.request p, s.wall.clock)
        merged := if a.post.isSome ∧ x.postPending then rises x.merged else x.merged
        postPending := x.postPending || a.post.isSome } ∧
      (∀ i, i ≠ k → t.trigger i = s.trigger i) ∧
      (a.timers = none → t.triggers.timers = s.triggers.timers) ∧
      (∀ a0 a1, a.timers = some (a0, a1) → ∀ i, t.triggers.timers.get i =
        match if i = 0 then a0 else a1 with
        | .none => s.triggers.timers.get i
        | .stop => { s.triggers.timers.get i with running := false, count := 0 }
        | .start v rep => { s.triggers.timers.get i with
            running := true, count := v, start := v, rep := rep, starter := some (.trigger k) }) ∧
      (a.lines = none → t.lines = s.lines) ∧
      (∀ L, a.lines = some L → ∀ l, t.line l =
        (let c := (s.line l).config
         let pulsed := L.pulseMask.getLsbD l.val = true ∧ c.mode = .output
         { s.line l with
           config := { c with commanded := if L.clearMask.getLsbD l.val then .inactive
                                           else if L.setMask.getLsbD l.val then .active else c.commanded }
           pulseCount := if pulsed then some s.lines.pulseWidth else (s.line l).pulseCount
           pulses := if pulsed then rises (s.line l).pulses else (s.line l).pulses })) ∧
      (a.post = none ∨ x.postPending = true → t.triggers.posts = s.triggers.posts) ∧
      (∀ b, a.post = some b → x.postPending = false → t.triggers.posts = s.triggers.posts ++
        [{ trigger := k, firedAt := s.wall.clock
           raw := { params := some b.params, tail := some b.tail
                    due := some (match b.due with
                      | .after d => .time (min (s.wall.clock + d) (2 ^ 48 - 1))
                      | .next o => .next o) } }]) ∧
      (x.defn.notifyA = true → s.linkUp .a = true → (t.port .a).notices.getLsbD 1 = true) ∧
      (x.defn.notifyB = true → s.linkUp .b = true → (t.port .b).notices.getLsbD 1 = true) ∧
      t.triggers.error = s.triggers.error ∧ t.triggers.values = s.triggers.values ∧
      Served p .fireTriggers tag .done (Wire.u8 (2 ^ k.val)) s t ∧ t.cues = (s.renewHold p).cues ∧
      SameBut [.cues, .arbiter, .triggers, .lines, .ports, .pins] s t) ∧
    (∀ m : MarksPart, x.enabled = true → a.marks = some m → a.chain = none →
      ∃ t, exec (.fireTriggers p tag body) s = .next t ∧ ∀ i,
        let c := (s.trigger i).defn.condition
        let new := match m.change with
          | .capture offset => (c.value s).map (· + offset)
          | .advance step => (s.trigger i).defn.mark.map (· + step)
        (∀ v top, m.targets.getLsbD i.val = true → c.maxValue = some top → new = some v →
          (t.trigger i).defn = { (s.trigger i).defn with mark := some (min v top) } ∧
          (t.trigger i).markSaturated = ((s.trigger i).markSaturated || decide (top < v)) ∧
          (t.trigger i).last = (c.value s).any fun w => decide (min v top ≤ w)) ∧
        (m.targets.getLsbD i.val = false ∨ c.maxValue = none ∨ new = none →
          (t.trigger i).defn = (s.trigger i).defn ∧ (t.trigger i).last = (s.trigger i).last)) ∧
    ∀ set : BitVec 8, x.enabled = true → a.chain = some set → ∃ t, exec (.fireTriggers p tag body) s = .next t ∧
      (∀ i, i ≠ k → (s.trigger i).enabled = true → set.getLsbD i.val = true →
        (t.trigger i).fires = rises (s.trigger i).fires ∧ (t.trigger i).lastFire = some (.chain k, s.wall.clock) ∧
        (t.trigger i).enabled = !(s.trigger i).defn.once) ∧
      (∀ i, i ≠ k → (s.trigger i).enabled = false ∨ set.getLsbD i.val = false →
        (t.trigger i).fires = (s.trigger i).fires ∧ (t.trigger i).enabled = (s.trigger i).enabled) ∧
      (t.trigger k).fires =
        if set.getLsbD k.val = true ∧ x.defn.once = false then rises (rises x.fires) else rises x.fires

/-! ### The wall description store -/

/-- STAGE STORE writes each field carried into the staging image of a group that is not programmed; PROGRAM STORE
begins the programming and stays in progress; PROGRAMMING_END writes the staged fields, and 0 for every field never
staged, sets the programmed flag, empties the staging and answers with the contents. Another select code or a
programming in progress is refused STATE, and a programmed group PROGRAMMED. The fields and their byte forms are those
of log 34. PROGRAMMING_END with none in progress changes nothing (log 4). -/
def Obligations.StoreGroupsAreStagedAndProgrammed : Prop :=
  (∀ (s : State) (p : PortId) (tag : Tag) (body rest : List Byte) (g : GroupId), s.Takes p body → s.isServing = true →
    Wire.num 1 body = some (g.val, rest) →
    (s.startup.select ≠ 7 ∨ s.startup.programming ≠ none →
      exec (.stageStore p tag body) s = .next (s.replied p .stageStore tag .state []) ∧
      exec (.programStore p tag body) s = .next (s.replied p .programStore tag .state [])) ∧
    (s.startup.select = 7 → s.startup.programming = none →
      ((s.group g).programmed = true →
        exec (.programStore p tag body) s = .next (s.replied p .programStore tag .programmed []) ∧
        ∀ fs, readFields (groupKinds g) rest = some fs → fieldsInRange (groupKinds g) fs = true →
          exec (.stageStore p tag body) s = .next (s.replied p .stageStore tag .programmed [])) ∧
      (readFields (groupKinds g) rest = none ∨ (∃ fs, readFields (groupKinds g) rest = some fs ∧
          fieldsInRange (groupKinds g) fs = false) →
        exec (.stageStore p tag body) s = .next (s.replied p .stageStore tag .range [])) ∧
      (∀ fs, (s.group g).programmed = false → readFields (groupKinds g) rest = some fs →
        fieldsInRange (groupKinds g) fs = true → ∃ t, exec (.stageStore p tag body) s = .next t ∧
        t.group g = { s.group g with staging := List.zipWith (fun new old => Option.or new old) fs (s.group g).staging } ∧
        (∀ i, i ≠ g → t.group i = s.group i) ∧
        t.startup = { s.startup with groups := t.startup.groups } ∧
        Served p .stageStore tag .done (writeStaging (groupKinds g) (t.group g).staging) s t ∧
        t.cues = (s.renewHold p).cues ∧ SameBut [.cues, .ports, .startup] s t) ∧
      ((s.group g).programmed = false → ∃ t, exec (.programStore p tag body) s = .next t ∧
        t.startup = { s.startup with programming := some { group := g, port := p, answered := true } } ∧
        t.port p = { s.port p with
          inProgress := some { request := { kind := .programStore, tag := tag, body := body }, granted := false } } ∧
        t.port p.other = s.port p.other ∧ t.cues = (s.renewHold p).cues ∧ SameBut [.cues, .ports, .startup] s t))) ∧
  (∀ (s : State) (x : Programming), s.AtRest → s.startup.programming = some x → (s.port x.port).queue = [] →
    ∃ t, exec .programmingEnd s = .next t ∧
      t.group x.group = { s.group x.group with
        programmed := true
        contents := List.zipWith (fun k v => v.getD (FieldKind.zero k)) (groupKinds x.group) (s.group x.group).staging
        staging := (s.group x.group).staging.map fun _ => none } ∧
      (∀ i, i ≠ x.group → t.group i = s.group i) ∧
      t.startup = { s.startup with groups := t.startup.groups, programming := none } ∧
      (∀ y, x.answered = true → (s.port x.port).link = .up → (s.port x.port).inProgress = some y →
        (t.port x.port).inProgress = none ∧
        Replied x.port y.request.kind y.request.tag .done
          (writeFields (groupKinds x.group) (t.group x.group).contents) s t) ∧
      (x.answered = false → t.ports = s.ports) ∧ SameBut [.ports, .startup] s t) ∧
  ∀ s : State, s.AtRest → s.startup.programming = none → exec .programmingEnd s = .next s

/-! ### The operations behind the arbiter -/

/-- ADMISSION_COMPLETE of a post that passes every check: the cue is inserted at the place its due and sequence give
it, under a fresh id, and the requester learns DONE or CLAMPED with the id, T, N and the slipped flag. The due is
fixed by the wall state, the form and the late policy. When next sequence would pass 2^32−1, the cues are renumbered
1, 2, 3 and so on in list order. A new pending generation is at the Frame Store Controller at once. After the Start-up
Controller's post the console prints its answer, inserted or refused, and start-up ends, under code 1 with RUN. What
start-up prints is as log 25 says. -/
def Obligations.AdmissionInsertsTheCue : Prop :=
  (∀ (s : State) (c : ClaimFrom) (answered : Bool) (raw : RawPost) (post : CheckedPost) (time : Nat) (due : Option Nat)
      (slipped : Bool), s.AtRest → s.arbiter.granted = some { claimant := c, op := .post raw, answered := answered } →
    Alone c s → s.isEditable = true → (s.wall.state = .stopped → ∀ o, raw.due ≠ some (.next o)) →
    s.heldAgainst (State.claimOwner c) = none → checkPost raw = some post → s.unknownReference post.kind = false →
    s.cues.list.length < 64 → s.fixDue post.due post.late = .ok (time, due, slipped) →
    let cue : Cue :=
      { id := s.cues.findId 97 s.cues.nextId, owner := State.claimOwner c, kind := post.kind, time := time, due := due,
        late := post.late, gate := post.gate, waiting := false, seq := s.cues.nextSeq }
    let key := fun x : Cue => if s.wallRuns then x.due.getD 0 else x.time
    let unnumbered := fun x : Cue => { x with seq := 0 }
    ∃ t, exec .admissionComplete s = .next t ∧
      (∃ l r, s.cues.list = l ++ r ∧
        (s.cues.nextSeq < 2 ^ 32 - 1 → t.cues.list = l ++ cue :: r ∧ t.cues.nextSeq = s.cues.nextSeq + 1) ∧
        (2 ^ 32 - 1 ≤ s.cues.nextSeq → t.cues.list.map unnumbered = (l ++ cue :: r).map unnumbered ∧
          t.cues.list.map (·.seq) = List.range' 1 (s.cues.list.length + 1) ∧
          t.cues.nextSeq = s.cues.list.length + 2) ∧
        (∀ x ∈ l, key x < key cue ∨ (key x = key cue ∧ x.seq ≤ cue.seq)) ∧
        ∀ x, r.head? = some x → key cue < key x ∨ (key x = key cue ∧ cue.seq < x.seq)) ∧
      t.cues.nextId = CueStore.idAfter cue.id ∧ t.cues.history = s.cues.history ∧ t.cues.hold = s.cues.hold ∧
      (∀ st gen rate length mode, post.kind = .startAdvert st gen rate length mode →
        t.cues.pendingGen.get st = t.cues.pendingOf st) ∧
      (∀ st, t.cues.pendingGen.get st ≠ s.cues.pendingGen.get st →
        (t.stream st).pendingGen = t.cues.pendingGen.get st) ∧
      Delivered c answered (.inserted post.clampRamp post.clampGate slipped cue.id time due) s t ∧
      SameBut [.cues, .arbiter, .plan, .store, .triggers, .ports, .console, .pins] s t) ∧
  (∀ (s : State) (time offset : Nat) (late : LatePolicy) (e : Nat),
    (s.wall.state = .stopped → s.fixDue (.time time) late = .ok (time, none, false)) ∧
    (s.wall.state = .running ∨ s.wall.state = .dark → s.wall.epoch = some e →
      let n := if e < time then (time - e + s.period - 1) / s.period else 0
      let at_ := fun m => min (e + m * s.period) (2 ^ 48 - 1)
      (s.plan.newest = none → s.fixDue (.time time) late = .ok (time, some n, false) ∧
        s.fixDue (.next offset) late = .ok (at_ offset, some offset, false)) ∧
      ∀ k, s.plan.newest = some k →
        (k < n → s.fixDue (.time time) late = .ok (time, some n, false)) ∧
        (n ≤ k → s.fixDue (.time time) .strict = .error (n, k)) ∧
        (n ≤ k → s.fixDue (.time time) .slip = .ok (at_ (k + 1), some (k + 1), true)) ∧
        s.fixDue (.next offset) late = .ok (at_ (k + 1 + offset), some (k + 1 + offset), false))) ∧
  ∀ (s : State) (raw : RawPost) (answered : Bool), s.AtRest →
    s.arbiter.granted = some { claimant := .startup, op := .post raw, answered := answered } →
    let line : ConsoleOut := match (s.ungrant.judgePost .console raw).2 with
      | .inserted ramp gate slipped id _ due => .posted (ramp || gate) id due slipped
      | o => .refused o.code
    ∃ t, exec .admissionComplete s = .next t ∧ t.startup = { s.startup with phase := .ended } ∧
      (∃ more, t.console.printed = s.console.printed ++ line :: more) ∧
      t.console.printed.getLast? = some (.startState t.wall.state) ∧
      (s.startup.select ≠ 1 → t.wall = s.wall ∧
        t.console = { s.console with printed := s.console.printed ++ [line, .startState s.wall.state] }) ∧
      (s.startup.select = 1 → s.wall.state = .stopped → (s.wall.clock / s.period + 1) * s.period ≤ maxClock →
        t.wall.state = .running ∧ t.wall.epoch = some ((s.wall.clock / s.period + 1) * s.period)) ∧
      (s.startup.select ≠ 5 → s.wall.state ≠ .halted →
        ∀ p, (t.port p).link = if (s.port p).link = .held then .down else (s.port p).link)

/-- ADMISSION_COMPLETE of a post that a check refuses: the first check that fails decides the outcome, the requester
learns it, and the cue list is unchanged. That a typed post refused in TESTING leaves the console in TEST, with its
counts at 0 and TESTING printed, is the model's choice (log 41). -/
def Obligations.AdmissionRefusesAtTheFirstFailingCheck : Prop :=
  ∀ (s : State) (c : ClaimFrom) (answered : Bool) (raw : RawPost), s.AtRest →
    s.arbiter.granted = some { claimant := c, op := .post raw, answered := answered } → Alone c s →
    let refused := fun o : PostOutcome => ∃ t, exec .admissionComplete s = .next t ∧ t.cues = s.cues ∧
      Delivered c answered o s t ∧ SameBut [.arbiter, .triggers, .ports, .console] s t
    let open_ := s.isEditable = true ∧ (s.wall.state = .stopped → ∀ o, raw.due ≠ some (.next o))
    let free := ∀ h, s.cues.hold = some h → State.claimOwner c = .port h.holder ∨ ∃ k, c = .trigger k
    (s.isEditable = false ∨ (s.wall.state = .stopped ∧ ∃ o, raw.due = some (.next o)) → refused (.state s.wall.state)) ∧
    (∀ h, open_ → s.cues.hold = some h → (State.claimOwner c = .port h.holder.other ∨ c = .typed) →
      refused (.held h.holder)) ∧
    (open_ → free → checkPost raw = none → refused .range) ∧
    ∀ post : CheckedPost, open_ → free → checkPost raw = some post →
      (s.unknownReference post.kind = true → refused .unknown) ∧
      (s.unknownReference post.kind = false → 64 ≤ s.cues.list.length → refused .full) ∧
      ∀ n k, s.unknownReference post.kind = false → s.cues.list.length < 64 →
        s.fixDue post.due post.late = .error (n, k) → refused (.late n k)

/-- The id an admission gives is the first from next id on that neither the list nor the history holds, after 65535
comes 1 and 0 is skipped, and it is found within 97 steps; next id becomes the value after it. A refused post receives
none and leaves no trace in the list or the history. -/
def Obligations.AdmissionGivesAFreshId : Prop :=
  ∀ (s : State) (o : Owner) (raw : RawPost), s.cues.list.length + s.cues.history.length ≤ 96 →
    1 ≤ s.cues.nextId → s.cues.nextId ≤ 65535 →
    let next := fun i => if i = 65535 then 1 else i + 1
    let used := fun i => s.cues.list.any (·.id == i) || s.cues.history.any (·.id == i)
    (∃ clampRamp clampGate slipped id time due,
      (s.judgePost o raw).2 = .inserted clampRamp clampGate slipped id time due ∧
      1 ≤ id ∧ id ≤ 65535 ∧ used id = false ∧
      (∃ steps, steps < 97 ∧ id = Nat.repeat next steps s.cues.nextId ∧
        ∀ i, i < steps → used (Nat.repeat next i s.cues.nextId) = true) ∧
      (s.judgePost o raw).1.cues.nextId = next id ∧ (s.judgePost o raw).1.cues.history = s.cues.history ∧
      (∃ c ∈ (s.judgePost o raw).1.cues.list, c.id = id) ∧
      (s.judgePost o raw).1.cues.list.length = s.cues.list.length + 1) ∨
    (∀ clampRamp clampGate slipped id time due,
      (s.judgePost o raw).2 ≠ .inserted clampRamp clampGate slipped id time due) ∧ (s.judgePost o raw).1.cues = s.cues

/-- CANCEL_COMPLETE: a cue of the list that the other port does not own is retired CANCELLED, with refresh K, and
answered DONE; the other port's is refused OWNER; one that is in the history or in neither is answered GONE; the other
port's hold makes it HELD, an id of 0 or none RANGE, and TESTING STATE. The body of GONE is the model's choice (log 15).
-/
def Obligations.CancelRetiresTheCue : Prop :=
  ∀ (s : State) (p : PortId) (id : Option Nat) (x : InProgress), s.AtRest →
    s.arbiter.granted = some { claimant := .port p, op := .cancel id, answered := true } → (s.port p).link = .up →
    (s.port p).inProgress = some x → (s.port p).queue = [] →
    let refused := fun (code : Code) (body : List Byte) => ∃ t, exec .cancelComplete s = .next t ∧ t.cues = s.cues ∧
      Replied p x.request.kind x.request.tag code body s t ∧ (t.port p).inProgress = none ∧
      SameBut [.arbiter, .ports] s t
    let free := ∀ h, s.cues.hold = some h → h.holder = p
    (s.isEditable = false → refused .state []) ∧
    (s.isEditable = true → ¬ free → refused .held []) ∧
    (s.isEditable = true → free → id = none ∨ id = some 0 → refused .range []) ∧
    ∀ i, s.isEditable = true → free → id = some i → i ≠ 0 →
      (∀ c, s.cues.list.find? (fun c => c.id == i) = some c → c.owner = .port p.other → refused .owner []) ∧
      (∀ c, s.cues.list.find? (fun c => c.id == i) = some c → c.owner ≠ .port p.other →
        ∃ t, exec .cancelComplete s = .next t ∧ t.cues.list = s.cues.list.filter (fun c => c.id != i) ∧
          (s.cues.history.length < 32 → t.cues.history = s.cues.history ++
            [{ id := i, owner := c.owner, kind := c.kind, outcome := .cancelled,
               refresh := if s.wallRuns then s.plan.newest else none }]) ∧
          t.cues.nextId = s.cues.nextId ∧ t.cues.hold = s.cues.hold ∧
          (∀ st gen rate length mode, c.kind = .startAdvert st gen rate length mode →
            t.cues.pendingGen.get st = t.cues.pendingOf st) ∧
          Replied p x.request.kind x.request.tag .done [] s t ∧ (t.port p).inProgress = none ∧ PortsKeep s t ∧
          SameBut [.cues, .arbiter, .plan, .store, .ports, .pins] s t) ∧
      (s.cues.list.find? (fun c => c.id == i) = none → ∀ e, s.cues.history.find? (fun e => e.id == i) = some e →
        refused .gone (Wire.u8 e.outcome.code ++ Wire.maybe Wire.refresh e.refresh)) ∧
      (s.cues.list.find? (fun c => c.id == i) = none → s.cues.history.find? (fun e => e.id == i) = none →
        refused .gone [6, 0])

/-! ### Tile links -/

/-- A tile link's life. TILE_LINK_UP of a DOWN tile begins TRAINING; HELLO within the horizon makes a TRAINING or LIVE
tile LIVE, and another one FAULTED DEPTH; TILE_LINK_DOWN and TILE_UNKNOWN_MESSAGE take a TRAINING, LIVE or FAULTED
tile DOWN, close its wrap, and, where it was LIVE, abandon its dispatches and OPEN records. A hello on a link that is
down changes nothing (log 31). A wrap that closes in TESTING leaves the console in TEST (log 41). -/
def Obligations.TileLinksTrainLiveAndGoDown : Prop :=
  (∀ (s : State) (j : TileId), s.AtRest →
    ((s.tile j).state = .down → ∃ t, exec (.tileLinkUp j) s = .next t ∧
      t.tile j = { s.tile j with
        linkUp := true, state := .training, reason := none, training := some 60000, helloDepth := none, depth := none
        sent := (s.tile j).sent ++ [.trainingRequest] } ∧
      (∀ i, i ≠ j → t.tile i = s.tile i) ∧ SameBut [.tiles] s t) ∧
    ((s.tile j).state ≠ .down → exec (.tileLinkUp j) s = .next s)) ∧
  (∀ (s : State) (j : TileId) (d : Byte), s.AtRest → (s.tile j).linkUp = true →
    let x := s.tile j
    let counted := { x.totals with hello := min 65535 (x.totals.hello + 1) }
    let depth := if x.override.isSome then x.override else if d.toNat ≤ 7 then some d.toNat else none
    (x.state = .training ∨ x.state = .live → ∃ t, exec (.hello j d) s = .next t ∧
      (∀ n, depth = some n → n ≤ s.wall.horizon →
        t.tile j = { x with
          state := .live, helloDepth := some d.toNat, depth := some n, training := none, missRun := 0, dispatches := []
          awaiting := [], totals := counted
          first := if s.wall.state = .running ∨ s.wall.state = .dark then some ((s.plan.newest.map (· + 1)).getD 0)
                   else none } ∧
        (∀ p, (s.port p).link = .up → (t.port p).notices.getLsbD 2 = true) ∧ t.triggers = s.triggers) ∧
      (depth = none ∨ (∃ n, depth = some n ∧ s.wall.horizon < n) →
        (t.tile j).state = .faulted ∧ (t.tile j).reason = some .depth ∧ (t.tile j).depth = depth ∧
        (t.tile j).helloDepth = some d.toNat ∧ (t.tile j).training = none ∧ t.triggers.error.flag = true) ∧
      (x.state = .live → (∀ e ∈ t.plan.entries, ∀ r ∈ e.records, r.pos = j → r.disposition ≠ .opened) ∧
        t.store.releases = s.store.releases ++ x.dispatches.flatMap Dispatch.owed ++
          s.plan.entries.flatMap fun e => (e.records.filter fun r => r.pos == j && r.disposition == .opened).filterMap
            TileRecord.named) ∧
      (∀ i, i ≠ j → t.tile i = s.tile i) ∧ PortsKeep s t ∧
      SameBut [.arbiter, .plan, .store, .tiles, .triggers, .lines, .ports, .pins] s t) ∧
    (x.state ≠ .training → x.state ≠ .live → ∃ t, exec (.hello j d) s = .next t ∧
      t.tile j = { x with totals := counted } ∧ (∀ i, i ≠ j → t.tile i = s.tile i) ∧ SameBut [.tiles] s t)) ∧
  (∀ (s : State) (j : TileId) (d : Byte), s.AtRest → (s.tile j).linkUp = false → exec (.hello j d) s = .next s) ∧
  ∀ (s : State) (j : TileId) (c : Instr), s.AtRest →
    (c = .tileLinkDown j ∨ ∃ type : Byte, type ≠ 0x81 ∧ type ≠ 0x82 ∧ type ≠ 0x83 ∧ c = .tileUnknownMessage j type) →
    let x := s.tile j
    ((x.state = .training ∨ x.state = .live ∨ x.state = .faulted) → ∃ t, exec c s = .next t ∧
      t.tile j = { x with
        state := .down, linkUp := false, reason := none, training := none, helloDepth := none, depth := none
        first := none, wrapped := false, dispatches := if x.state = .live then [] else x.dispatches
        awaiting := if x.state = .live then [] else x.awaiting } ∧
      (∀ i, i ≠ j → t.tile i = s.tile i) ∧
      (x.state = .live → (∀ e ∈ t.plan.entries, ∀ r ∈ e.records, r.pos = j → r.disposition ≠ .opened) ∧
        t.store.releases = s.store.releases ++ x.dispatches.flatMap Dispatch.owed ++
          s.plan.entries.flatMap fun e => (e.records.filter fun r => r.pos == j && r.disposition == .opened).filterMap
            TileRecord.named) ∧
      (x.state ≠ .live → t.plan = s.plan ∧ t.store = s.store) ∧
      (x.wrapped = true → t.console = if s.wall.state = .testing then
          { s.console with target := none, mode := .test, passes := 0, errors := 0, inPass := 0
                           printed := s.console.printed ++ [.linkDown, .testing] }
        else { s.console with target := none, mode := .prompt, printed := s.console.printed ++ [.linkDown, .prompt] }) ∧
      (x.wrapped = false → t.console = s.console) ∧ SameBut [.plan, .store, .tiles, .console] s t) ∧
    (x.state = .off ∨ x.state = .down → exec c s = .next s)

/-- REPORT on an UP link: an awaited refresh reported on time clears the miss run and is counted; one reported late is
a miss, whose third in a run faults the tile MISSES, and in TESTING is a test error instead; any other report is
counted ignored. DISPATCH_COMPLETE ends the dispatch being sent, sends its release, and lets the next one that is
QUEUED be sent. With the link down, or nothing being sent, they change nothing (log 31, log 4). -/
def Obligations.ReportsAreJudgedAndDispatchesEnd : Prop :=
  (∀ (s : State) (j : TileId) (n : BitVec 40) (onTime : Bool), s.AtRest →
    let x := s.tile j
    let awaited := x.state = .live ∧ n.toNat ∈ x.awaiting
    let left := x.awaiting.filter (· != n.toNat)
    (x.linkUp = true → ∃ t, exec (.report j n onTime) s = .next t ∧ (∀ i, i ≠ j → t.tile i = s.tile i) ∧
      (¬ awaited → t.tile j = { x with totals := { x.totals with ignored := min 65535 (x.totals.ignored + 1) } } ∧
        SameBut [.tiles] s t) ∧
      (awaited → onTime = true → s.wall.state ≠ .testing → t.tile j = { x with
        awaiting := left, missRun := 0, totals := { x.totals with onTime := min 65535 (x.totals.onTime + 1) } } ∧
        SameBut [.tiles] s t) ∧
      (awaited → onTime = false → s.wall.state ≠ .testing → x.missRun < 2 → t.tile j = { x with
        awaiting := left, missRun := x.missRun + 1
        totals := { x.totals with misses := min 65535 (x.totals.misses + 1) } } ∧ SameBut [.tiles] s t) ∧
      (awaited → onTime = false → s.wall.state ≠ .testing → 2 ≤ x.missRun →
        t.tile j = { x with
          state := .faulted, reason := some .misses, awaiting := [], dispatches := [], first := none, training := none
          missRun := x.missRun + 1
          totals := { x.totals with misses := min 65535 (x.totals.misses + 1)
                                    faults := min 65535 (x.totals.faults + 1) } } ∧
        t.triggers.error.flag = true ∧
        t.triggers.error.cause = (if s.triggers.error.flag then s.triggers.error.cause
          else some (.tileFault j .misses)) ∧
        (∀ e ∈ t.plan.entries, ∀ r ∈ e.records, r.pos = j → r.disposition ≠ .opened) ∧
        (∀ p, (s.port p).link = .up → (t.port p).notices.getLsbD 2 = true) ∧
        SameBut [.arbiter, .plan, .store, .tiles, .triggers, .lines, .ports, .pins] s t) ∧
      (awaited → s.wall.state = .testing → (t.tile j).awaiting = left ∧ (t.tile j).missRun = x.missRun ∧
        (t.tile j).state = .live ∧
        t.console = (if onTime = false ∧ s.console.mode = .test then
          { s.console with errors := min 65535 (s.console.errors + 1) } else s.console) ∧
        SameBut [.tiles, .console] s t)) ∧
    (x.linkUp = false → exec (.report j n onTime) s = .next s)) ∧
  (∀ (s : State) (j : TileId) (d : Dispatch) (ds : List Dispatch) (load : Payload) (reading : Bool), s.AtRest →
    (s.tile j).dispatches = d :: ds → d.phase = .sending load reading →
    ∃ t, exec (.dispatchComplete j) s = .next t ∧ (∀ i, i ≠ j → t.tile i = s.tile i) ∧
      t.store = { s.store with releases := s.store.releases ++ (match load with
        | .record r => (match r.buffer with | .buffer b fill _ _ => [(b, fill)] | _ => [])
        | _ => []) } ∧
      (t.tile j).awaiting = (s.tile j).awaiting ∧ (t.tile j).state = (s.tile j).state ∧
      ((∀ x load', ds.head? = some x → x.phase ≠ .queued load') → (t.tile j).dispatches = ds ∧
        (t.tile j).sent = (s.tile j).sent ++ [.dispatchEnd d.refresh .complete]) ∧
      (∀ x xs load', ds = x :: xs → x.phase = .queued load' → ∃ sends message,
        (t.tile j).dispatches = { x with phase := .sending load' sends } :: xs ∧
        (t.tile j).sent = (s.tile j).sent ++ [.dispatchEnd d.refresh .complete, message] ∧
        (∀ r, load' = .record r → (sends = true ↔ ∃ b fill gen number, r.buffer = .buffer b fill gen number ∧
          (s.buffer b).bad = false ∧ (s.buffer b).frame ≠ none)) ∧ (load' = .marker ∨ load' = .test → sends = false)) ∧
      SameBut [.store, .tiles] s t) ∧
  ∀ (s : State) (j : TileId), s.AtRest →
    (∀ x, (s.tile j).dispatches.head? = some x → ∀ load reading, x.phase ≠ .sending load reading) →
    exec (.dispatchComplete j) s = .next s

/-! ### The service console -/

/-- WRAP joins the service channel of a tile whose link is up and prints NOT UP for another; in mode WRAP a character
goes to the tile unchanged, in a message of its own (log 57), the tile's bytes are printed, and Ctrl-D ends the wrap;
bytes of a tile that is not wrapped are counted as dropped. A number above 23 prints RANGE. What is printed is a
record of it (log 24), and the commands are as log 23 says. A wrap that ends in TESTING leaves the console in TEST
(log 41), and bytes of a tile whose link is down change nothing (log 31). -/
def Obligations.WrapJoinsTheServiceChannel : Prop :=
  (∀ (s : State) (n : Nat), s.AtRest → s.console.mode = .prompt →
    (∀ j : TileId, n = j.val → (s.tile j).linkUp = true → (s.tile j).state ≠ .off →
      ∃ t, exec (.wrap n) s = .next t ∧ t.tile j = { s.tile j with wrapped := true } ∧
        (∀ i, i ≠ j → t.tile i = s.tile i) ∧
        t.console = { s.console with line := [], afterReturn := true, mode := .wrap, target := some j,
                                     printed := s.console.printed ++ [.wrapped j] } ∧ SameBut [.tiles, .console] s t) ∧
    (∀ j : TileId, n = j.val → (s.tile j).linkUp = false ∨ (s.tile j).state = .off → exec (.wrap n) s = .next
      { s with console := { s.console with
        line := [], afterReturn := true, printed := s.console.printed ++ [.notUp, .prompt] } }) ∧
    (23 < n → exec (.wrap n) s = .next { s with console := { s.console with
      line := [], afterReturn := true, printed := s.console.printed ++ [.complaint .range, .prompt] } })) ∧
  (∀ (s : State) (c : Byte) (j : TileId), s.AtRest → s.console.mode = .wrap → s.console.target = some j → c ≠ 0x04 →
    ∃ t, exec (.consoleCharacter c) s = .next t ∧
      t.tile j = { s.tile j with sent := (s.tile j).sent ++ [.service [c]] } ∧ (∀ i, i ≠ j → t.tile i = s.tile i) ∧
      t.console = { s.console with afterReturn := c == 0x0D } ∧ SameBut [.tiles, .console] s t) ∧
  (∀ (s : State) (j : TileId), s.AtRest → s.console.mode = .wrap → s.console.target = some j →
    (∃ t, exec .wrapEnd s = .next t ∧ t.tile j = { s.tile j with wrapped := false } ∧
      (∀ i, i ≠ j → t.tile i = s.tile i) ∧
      t.console = (if s.wall.state = .testing then
          { s.console with mode := .test, target := none, afterReturn := false, passes := 0, errors := 0, inPass := 0
                           printed := s.console.printed ++ [.testing] }
        else { s.console with
          mode := .prompt, target := none, afterReturn := false, printed := s.console.printed ++ [.prompt] }) ∧
      SameBut [.tiles, .console] s t) ∧
    exec (.consoleCharacter 0x04) s = exec .wrapEnd s) ∧
  (∀ s : State, s.AtRest → s.console.mode ≠ .wrap → exec .wrapEnd s = .next s) ∧
  ∀ (s : State) (j : TileId) (bytes : List Byte), s.AtRest →
    ((s.tile j).linkUp = true → (s.tile j).wrapped = true → exec (.serviceBytes j bytes) s = .next
      { s with console := { s.console with printed := s.console.printed ++ bytes.map .tileByte } }) ∧
    ((s.tile j).linkUp = true → (s.tile j).wrapped = false → ∃ t, exec (.serviceBytes j bytes) s = .next t ∧
      t.tile j = { s.tile j with totals := { (s.tile j).totals with
        serviceDropped := min 65535 ((s.tile j).totals.serviceDropped + bytes.length) } } ∧
      (∀ i, i ≠ j → t.tile i = s.tile i) ∧ SameBut [.tiles] s t) ∧
    ((s.tile j).linkUp = false → exec (.serviceBytes j bytes) s = .next s)

/-- HELP, MAP, CUES and DESCRIPTION in mode PROMPT print their report and the prompt and change nothing else; HELP
prints the nine command names, and marks the two that take a number. DESCRIPTION prints the wall name and installer
number of the active configuration (log 54), and of that configuration the present level and the console's rate code
(log 75, log 76), and CUES both N and T of a cue (log 66). LAYOUT n presents the post of a TAKE of layout n as the
CONSOLE claim and waits; a number above 15 prints RANGE. What is printed is a record of it (log 24), and the commands
are as log 23 says. -/
def Obligations.ConsoleReportsAndLayout : Prop :=
  ∀ s : State, s.AtRest → s.console.mode = .prompt →
    let printed := fun out => { s with console := { s.console with
      line := [], afterReturn := true, printed := s.console.printed ++ [out, ConsoleOut.prompt] } }
    exec .help s = .next (printed (.help [([0x48, 0x45, 0x4C, 0x50], false), ([0x4D, 0x41, 0x50], false),
      ([0x43, 0x55, 0x45, 0x53], false), ([0x4C, 0x41, 0x59, 0x4F, 0x55, 0x54], true), ([0x52, 0x55, 0x4E], false),
      ([0x53, 0x54, 0x4F, 0x50], false), ([0x54, 0x45, 0x53, 0x54], false), ([0x57, 0x52, 0x41, 0x50], true),
      ([0x44, 0x45, 0x53, 0x43, 0x52, 0x49, 0x50, 0x54, 0x49, 0x4F, 0x4E], false)])) ∧
    exec .map s = .next (printed (.mapReport s.wall.state s.plan.newest
      (48 - ((List.finRange 48).filter fun b => (s.buffer b).state == .retired).length)
      (((List.finRange 24).filter fun j => decide (j.val < s.layouts.geometry.cols * s.layouts.geometry.rows)).map fun j =>
        { state := (s.tile j).state, reason := (s.tile j).reason, depth := (s.tile j).depth,
          source := (s.layouts.map.get j).source }))) ∧
    exec .cues s = .next (printed (.cuesReport s.plan.newest (s.cues.hold.map (·.holder)) (s.cues.list.map fun c =>
      { id := c.id, owner := c.owner, kind := c.kind, due := c.due, time := c.time, waiting := c.waiting }))) ∧
    exec .description s = .next (printed (.descriptionReport (State.wallName (s.loadedFrom 0)) (numAt (s.loadedFrom 0) 1)
      ((List.finRange 10).map fun g => ((s.group g).programmed, (s.group g).usable)) s.activeConfig)) ∧
    ∀ n : Nat,
      (15 < n → exec (.layout n) s = .next (printed (.complaint .range))) ∧
      (n ≤ 15 →
        let raw : RawPost := { params := some (.takeLayout n), due := some (.next 0),
                               tail := some { late := 1, gate := 0, patience := none, onTimeout := none } }
        ∃ t, exec (.layout n) s = .next t ∧
          t.console = { s.console with line := [], afterReturn := true, mode := .waiting } ∧
          SameBut [.arbiter, .console] s t ∧
          (∀ g, s.arbiter.granted = some g → t.arbiter = { s.arbiter with typedClaim := some raw }) ∧
          (s.arbiter.granted = none →
            (HighMember.requester .console ∈ s.arbiter.high ∨
              (.console ∈ s.arbiter.low ∧ HighMember.lowGroup ∈ s.arbiter.high)) →
            t.arbiter.granted = some { claimant := .typed, op := .post raw, answered := true } ∧
            t.arbiter.typedClaim = none))

/-- RUN, STOP and TEST typed in mode PROMPT, and Ctrl-C in mode TEST: RUN prints E, STOP stops the wall (log 24 for
what it prints), TEST enters TESTING, each refused STATE in another wall state; the end of the test stops the wall,
abandons the test dispatches and prints the final errors and passes. RUN and STOP raise WALL at both ports. The rows
stand for whole typed lines, and TEST_END outside mode TEST changes nothing (log 23). -/
def Obligations.ConsoleRunsStopsAndTestsTheWall : Prop :=
  (∀ s : State, s.AtRest → s.console.mode = .prompt →
    let e := (s.wall.clock / s.period + 1) * s.period
    let said := fun (out : List ConsoleOut) =>
      { s.console with line := [], afterReturn := true, printed := s.console.printed ++ out }
    let told := fun t : State => ∀ p, (s.port p).link = .up → (t.port p).notices.getLsbD 6 = true
    (s.wall.state = .stopped → e ≤ 2 ^ 48 - 1 →
      (∃ t, exec .consoleRun s = .next t ∧
        t.wall = { s.wall with epoch := some e, state := .running, newest := none } ∧
        t.console = said [.runAt e, .prompt] ∧ told t ∧ PortsKeep s t ∧
        t.plan.entries.map (·.refresh) = List.range s.wall.horizon ∧
        SameBut [.wall, .cues, .arbiter, .plan, .store, .tiles, .triggers, .lines, .ports, .console, .pins] s t) ∧
      ∃ t, exec .test s = .next t ∧
        t.wall = { s.wall with epoch := some e, state := .testing, newest := none } ∧
        t.console = { said [.testing] with mode := .test, passes := 0, errors := 0, inPass := 0 } ∧ told t ∧
        PortsKeep s t ∧ SameBut [.wall, .arbiter, .triggers, .lines, .ports, .console, .pins] s t) ∧
    (s.wall.state = .stopped → 2 ^ 48 - 1 < e →
      exec .consoleRun s = .next { s with console := said [.refused .range, .prompt] } ∧
      exec .test s = .next { s with console := said [.refused .range, .prompt] }) ∧
    (s.wall.state ≠ .stopped → exec .consoleRun s = .next { s with console := said [.refused .state, .prompt] } ∧
      exec .test s = .next { s with console := said [.refused .state, .prompt] }) ∧
    (s.wall.state = .running ∨ s.wall.state = .dark → ∃ t, exec .consoleStop s = .next t ∧
      t.wall = { s.wall with epoch := none, state := .stopped, newest := none } ∧
      t.console = said [.stopped, .prompt] ∧ told t ∧ PortsKeep s t ∧ t.plan.entries = [] ∧ t.plan.newest = none ∧
      (∀ j, (t.tile j).dispatches = [] ∧ (t.tile j).first = none) ∧
      SameBut [.wall, .cues, .arbiter, .adverts, .plan, .store, .tiles, .triggers, .lines, .ports, .console, .pins] s t) ∧
    (s.wall.state ≠ .running → s.wall.state ≠ .dark →
      exec .consoleStop s = .next { s with console := said [.refused .state, .prompt] })) ∧
  (∀ s : State, s.AtRest → s.console.mode = .test → ∃ t, exec .testEnd s = .next t ∧
    t.wall = { s.wall with epoch := none, state := .stopped, newest := none } ∧
    t.console = { s.console with
      mode := .prompt, afterReturn := false
      printed := s.console.printed ++ [.tally s.console.errors s.console.passes, .prompt] } ∧
    exec (.consoleCharacter 0x03) s = exec .testEnd s ∧
    (∀ j, t.tile j = { s.tile j with dispatches := [], awaiting := [] }) ∧ PortsKeep s t ∧
    SameBut [.wall, .arbiter, .store, .tiles, .triggers, .lines, .ports, .console, .pins] s t) ∧
  ∀ s : State, s.AtRest → s.console.mode ≠ .test → exec .testEnd s = .next s

/-- CONSOLE_CHARACTER in mode PROMPT edits the line: a printable character is stored in upper case and echoed, the
29th, a blank too, discards the line, DEL takes one back, Ctrl-U empties the line, a leading or repeated blank is
dropped, and a line feed after a carriage return is dropped. The end of a line drops its trailing blank and takes the
command that the line names, each of the nine by any leading part of its name, LAYOUT and WRAP with a blank and a
decimal number; a line that names none prints the message for it. In modes WAITING and TEST every character but Ctrl-C
in TEST is discarded. What is printed is a record of it, and the order of the messages is that of the table (log 24).
-/
def Obligations.ConsoleCharactersEditTheLine : Prop :=
  (∀ (s : State) (c : Byte), s.AtRest →
    let came := { s.console with afterReturn := c == 0x0D }
    let goes := fun x : Console => exec (.consoleCharacter c) s = .next { s with console := x }
    let upper := if 0x61 ≤ c.toNat ∧ c.toNat ≤ 0x7A then c - 0x20 else c
    let ends := c = 0x0D ∨ (c = 0x0A ∧ s.console.afterReturn = false)
    let line := if s.console.line.getLast? = some 0x20 then s.console.line.dropLast else s.console.line
    (s.console.mode = .prompt →
      (0x21 ≤ c.toNat → c.toNat ≤ 0x7E → s.console.line.length < 28 →
        goes { came with line := s.console.line ++ [upper], printed := s.console.printed ++ [.echo upper] }) ∧
      (0x21 ≤ c.toNat → c.toNat ≤ 0x7E → 28 ≤ s.console.line.length →
        goes { came with line := [], printed := s.console.printed ++ [.lineTooLong, .prompt] }) ∧
      (c = 0x20 ∨ c = 0x09 → s.console.line = [] ∨ s.console.line.getLast? = some 0x20 → goes came) ∧
      (c = 0x20 ∨ c = 0x09 → s.console.line ≠ [] → s.console.line.getLast? ≠ some 0x20 → s.console.line.length < 28 →
        goes { came with line := s.console.line ++ [0x20], printed := s.console.printed ++ [.echo 0x20] }) ∧
      (c = 0x20 ∨ c = 0x09 → s.console.line.getLast? ≠ some 0x20 → 28 ≤ s.console.line.length →
        goes { came with line := [], printed := s.console.printed ++ [.lineTooLong, .prompt] }) ∧
      (c = 0x7F → s.console.line ≠ [] →
        goes { came with line := s.console.line.dropLast, printed := s.console.printed ++ [.erase] }) ∧
      (c = 0x7F → s.console.line = [] → goes came) ∧
      (c = 0x15 → goes { came with line := [], printed := s.console.printed ++ [.newLine, .prompt] }) ∧
      (c = 0x0A → s.console.afterReturn = true → goes came) ∧
      (ends → line = [] → goes { came with line := [], printed := s.console.printed ++ [.prompt] }) ∧
      (∀ m, ends → line ≠ [] → readLine line = .error m →
        goes { came with line := [], printed := s.console.printed ++ [.complaint m, .prompt] }) ∧
      (∀ command : ConsoleCommand, line ≠ [] → readLine line = .ok command →
        (c = 0x0D → exec (.consoleCharacter c) s = exec
          (match command with
           | .help => .help | .map => .map | .cues => .cues | .layout n => .layout n | .run => .consoleRun
           | .stop => .consoleStop | .test => .test | .wrap n => .wrap n | .description => .description) s) ∧
        (c = 0x0A → s.console.afterReturn = false → ∀ t u, exec (.consoleCharacter c) s = .next t →
          exec (.consoleCharacter 0x0D) s = .next u →
          t = { u with console := { u.console with afterReturn := false } })) ∧
      (c.toNat < 0x20 ∨ 0x80 ≤ c.toNat → c ≠ 0x09 → c ≠ 0x0A → c ≠ 0x0D → c ≠ 0x15 → goes came)) ∧
    (s.console.mode = .waiting ∨ (s.console.mode = .test ∧ c ≠ 0x03) → goes came)) ∧
  let bare : List (List Byte × ConsoleCommand) :=
    [([0x48, 0x45, 0x4C, 0x50], .help), ([0x4D, 0x41, 0x50], .map), ([0x43, 0x55, 0x45, 0x53], .cues),
     ([0x52, 0x55, 0x4E], .run), ([0x53, 0x54, 0x4F, 0x50], .stop), ([0x54, 0x45, 0x53, 0x54], .test),
     ([0x44, 0x45, 0x53, 0x43, 0x52, 0x49, 0x50, 0x54, 0x49, 0x4F, 0x4E], .description)]
  let numbered : List (List Byte × Nat × (Nat → ConsoleCommand)) :=
    [([0x4C, 0x41, 0x59, 0x4F, 0x55, 0x54], 15, .layout), ([0x57, 0x52, 0x41, 0x50], 23, .wrap)]
  (∀ name command, (name, command) ∈ bare → ∀ k, 1 ≤ k → readLine (name.take k) = .ok command ∧
    ∀ tail, readLine (name.take k ++ 0x20 :: tail) = .error .what) ∧
  (∀ name top make, (name, top, make) ∈ numbered → ∀ k, 1 ≤ k → readLine (name.take k) = .error .number ∧
    (∀ word tail : List Byte, (∀ c ∈ word, c ≠ 0x20) → word = [] ∨ (∃ c ∈ word, c.toNat < 0x30 ∨ 0x39 < c.toNat) →
      tail = [] ∨ tail.head? = some 0x20 → readLine (name.take k ++ 0x20 :: (word ++ tail)) = .error .number) ∧
    ∀ digits : List (Fin 10), digits ≠ [] →
      let word : List Byte := digits.map fun d => BitVec.ofNat 8 (0x30 + d.val)
      let number := digits.foldl (fun n d => 10 * n + d.val) 0
      (number ≤ top → readLine (name.take k ++ 0x20 :: word) = .ok (make number)) ∧
      (number ≤ top → ∀ tail, readLine (name.take k ++ 0x20 :: (word ++ 0x20 :: tail)) = .error .what) ∧
      (top < number → ∀ tail : List Byte, tail = [] ∨ tail.head? = some 0x20 →
        readLine (name.take k ++ 0x20 :: (word ++ tail)) = .error .range)) ∧
  ∀ word tail : List Byte, (∀ c ∈ word, c ≠ 0x20) → tail = [] ∨ tail.head? = some 0x20 →
    word = [] ∨ ((∀ x ∈ bare, ¬ word <+: x.1) ∧ ∀ x ∈ numbered, ¬ word <+: x.1) →
    readLine (word ++ tail) = .error .what

/-! ### The commit -/

/-- At the commit of refresh n a stream's content frame number is floor((n − Ns) × Rc / Rw), held at 2^32−1, and its
target that number, or at most L − 1 in HOLD mode; both are written in the timeline with n, whatever cues the commit
applies, and the pick is handed on while the wall is RUNNING. The number and the target never fall within an advert,
and the number's steps repeat every Rw / gcd(Rc, Rw) refreshes. A frame numbered L or above is dropped on arrival in
HOLD mode. -/
def Obligations.CommitComputesTheFrameNumberAndTarget : Prop :=
  (∀ n m start rate wallRate : Nat, start ≤ n → n ≤ m →
    frameNumber n start rate wallRate = min ((n - start) * rate / wallRate) (2 ^ 32 - 1) ∧
    frameNumber n start rate wallRate ≤ frameNumber m start rate wallRate ∧
    (0 < wallRate → (n + wallRate / Nat.gcd rate wallRate - start) * rate / wallRate ≤ 2 ^ 32 - 1 →
      frameNumber (n + wallRate / Nat.gcd rate wallRate) start rate wallRate =
        frameNumber n start rate wallRate + rate / Nat.gcd rate wallRate)) ∧
  (∀ mode length c d, c ≤ d →
    targetOf mode length c = (if mode = .loop then c else min c (length - 1)) ∧
    targetOf mode length c ≤ targetOf mode length d) ∧
  (∀ (fs : FrameStore) (f : Frame) (len : Nat), (fs.streams.get f.stream).currentGen = some f.gen →
    (fs.streams.get f.stream).currentMode = some .hold → (fs.streams.get f.stream).currentLength = some len →
    0 < len → len ≤ f.number → fs.fate f = .stale ∨ fs.fate f = .late) ∧
  (∀ (s t : State) (early : BitVec 24) (st : StreamId) (y : Timeline) (e : Nat), s.AtRest →
    let m := (s.wall.newest.map (· + 1)).getD 0
    let n := m + s.wall.horizon
    (s.wall.state = .running ∨ s.wall.state = .dark) → s.wall.epoch = some e → e + m * s.period ≤ s.wall.clock →
    exec (.boundary early) s = .next t → t.adverts.get st = some y →
    let number := frameNumber n y.start y.rate s.wall.rate
    let target := targetOf y.mode y.length number
    y.latestRefresh = some n ∧ y.latestNumber = some number ∧ y.latestTarget = some target ∧
    ((∀ x, s.adverts.get st = some x → x.start ≤ n) → y.start ≤ n) ∧
    (t.wall.state = .running → ∃ tiles, (t.plan.handoffs.get st).getLast? = some (.pick n y.gen target tiles))) ∧
  ∀ (s : State) (early : BitVec 24) (st : StreamId) (x : Timeline) (e : Nat), s.AtRest →
    let m := (s.wall.newest.map (· + 1)).getD 0
    let n := m + s.wall.horizon
    (s.wall.state = .running ∨ s.wall.state = .dark) → s.wall.epoch = some e → e + m * s.period ≤ s.wall.clock →
    (∀ c ∈ s.cues.list, ∀ d, c.due = some d → n < d) → s.adverts.get st = some x →
    let number := frameNumber n x.start x.rate s.wall.rate
    let target := targetOf x.mode x.length number
    ∃ t, exec (.boundary early) s = .next t ∧
      t.adverts.get st = some { x with
        latestRefresh := some n, latestNumber := some number, latestTarget := some target
        loops := if x.mode = .loop ∧ x.loops < number / x.length then number / x.length else x.loops
        ended := x.ended || decide (x.mode = .hold ∧ x.length - 1 ≤ number) } ∧
      (∃ v, t.triggers.values.get st = some v ∧ v.refresh = n ∧ v.number = number ∧ v.target = target) ∧
      (s.wall.state = .running → ∃ tiles, t.plan.handoffs.get st =
        s.plan.handoffs.get st ++ [.pick n x.gen target tiles]) ∧
      (s.wall.state = .dark → t.plan.handoffs.get st = s.plan.handoffs.get st)

/-- A TAKE gives each position its pane covers the origin (ox + dc × (Tw + Gh), oy + dr × (Th + Gv)) clamped to
(max(0, Ws − Tw), max(0, Hs − Th)), read from the stream's configuration at that moment; the clamped origin keeps the
tile inside a picture at least as large as it, and is 0 on an axis where the picture is smaller. Of several panes that
cover a position the last of the layout counts. A tile record takes the origin of its map entry, and its dispatch
gives it to the tile. -/
def Obligations.TakeComputesTheViewportOrigin : Prop :=
  (∀ (s : State) (l : LayoutId) (n : Nat) (pre post : List Pane) (pane : Pane) (st : StreamId) (j : TileId),
    let g := s.layouts.geometry
    let c := (s.stream st).config
    s.layouts.table.get l = pre ++ pane :: post → (∀ q ∈ post, g.inPane q j.val = false) →
    pane.source = .stream st → 0 < c.width → 0 < c.height → 0 < g.cols → j.val < g.cols * g.rows →
    pane.col ≤ j.val % g.cols → j.val % g.cols < pane.col + pane.width →
    pane.row ≤ j.val / g.cols → j.val / g.cols < pane.row + pane.height →
    let ux := pane.originX + (j.val % g.cols - pane.col) * (g.tileW + g.gapH)
    let uy := pane.originY + (j.val / g.cols - pane.row) * (g.tileH + g.gapV)
    let x := min ux (max 0 (c.width - g.tileW))
    let y := min uy (max 0 (c.height - g.tileH))
    let b := s.layouts.take s.store l n
    b.map.get j = { source := .stream st, x := x, y := y, clamped := decide (x ≠ ux ∨ y ≠ uy) } ∧
    b.lastTake = some (l, n) ∧
    (g.tileW ≤ c.width → x + g.tileW ≤ c.width) ∧ (g.tileH ≤ c.height → y + g.tileH ≤ c.height) ∧
    (c.width < g.tileW → x = 0) ∧ (c.height < g.tileH → y = 0) ∧
    (c.width ≤ 8192 → c.height ≤ 8192 → 1 ≤ g.tileW → 1 ≤ g.tileH → x ≤ 8191 ∧ y ≤ 8191) ∧
    (pane.originX ≤ 65535 → pane.originY ≤ 65535 → g.cols ≤ 8 → g.rows ≤ 6 → g.tileW ≤ 8192 → g.gapH ≤ 255 →
      g.tileH ≤ 8192 → g.gapV ≤ 255 → ux ≤ 124664 ∧ uy ≤ 107770)) ∧
  (∀ (s : State) (dark : Bool) (j : TileId),
    (s.commitRecord dark j).x = (s.layouts.map.get j).x ∧ (s.commitRecord dark j).y = (s.layouts.map.get j).y) ∧
  ∀ (s : State) (j : TileId) (n : Nat) (r : TileRecord), ∃ content w h dataW dataH data,
    (s.dispatchHeader j n (.record r)).1 = .dispatch n content r.level r.x r.y w h dataW dataH data

/-- A commit with one due cue of gate NONE, and nothing WAITING or watching, applies it: the cue is retired APPLIED
with the refresh, a TAKE LAYOUT takes its layout, a START ADVERT starts its stream's timeline, a SET LEVEL with a ramp
of 0 sets the level, GO DARK and WAKE change the wall state. With no due cue a ramp moves the level by trunc((L1 − L0)
× k / R), and ends at L1. One due cue of gate READY is applied when its gate is satisfied; while it is not, the cue
waits as long as n − N is below its patience, and then is applied and retired FORCED, or retired DROPPED without
effect. The gate of a TAKE asks each stream of a pane on the wall for a current advert and a frame, and that of a
START ADVERT asks for frame 0. A cue applied supersedes the WAITING cues of its purpose. -/
def Obligations.CommitAppliesADueCue : Prop :=
  (∀ (s : State) (early : BitVec 24) (e : Nat) (c : Cue), s.AtRest →
    let m := (s.wall.newest.map (· + 1)).getD 0
    let n := m + s.wall.horizon
    (s.wall.state = .running ∨ s.wall.state = .dark) → s.wall.epoch = some e → e + m * s.period ≤ s.wall.clock →
    s.cues.list.filter (fun d => d.due.any fun d => decide (d ≤ n)) = [c] →
    s.cues.list.find? (fun d => d.id == c.id) = some c → c.gate = .none → (∀ d ∈ s.cues.list, d.waiting = false) →
    s.NoTriggers → s.plan.ramp = none →
    ∃ t, exec (.boundary early) s = .next t ∧ t.cues.list = s.cues.list.filter (fun d => d.id != c.id) ∧
      (s.cues.history.length < 32 → t.cues.history = s.cues.history ++
        [{ id := c.id, owner := c.owner, kind := c.kind, outcome := .applied, refresh := some n }]) ∧
      (∀ l, c.kind = .takeLayout l → t.layouts.lastTake = some (l, n) ∧
        t.layouts.map = (s.layouts.take s.store l n).map) ∧
      ((∀ l, c.kind ≠ .takeLayout l) → t.layouts = s.layouts) ∧
      (∀ st gen rate length mode, c.kind = .startAdvert st gen rate length mode → ∃ x, t.adverts.get st = some x ∧
        x.gen = gen ∧ x.start = n ∧ x.rate = rate ∧ x.length = length ∧ x.mode = mode ∧ x.cueId = c.id ∧
        x.latestRefresh = some n ∧ x.latestNumber = some 0 ∧ x.latestTarget = some 0 ∧ x.loops = 0) ∧
      (∀ target, c.kind = .setLevel target 0 → t.plan.level = target ∧ t.plan.ramp = none) ∧
      (∀ target length, c.kind = .setLevel target length → 0 < length → t.plan.level = s.plan.level ∧
        t.plan.ramp = some { start := n, fromLevel := s.plan.level, target := target, length := length }) ∧
      (c.kind = .goDark → t.wall.state = .dark) ∧ (c.kind = .wake → t.wall.state = .running) ∧
      (c.kind ≠ .goDark → c.kind ≠ .wake → t.wall.state = s.wall.state)) ∧
  (∀ (s : State) (early : BitVec 24) (e : Nat) (r : Ramp), s.AtRest →
    let m := (s.wall.newest.map (· + 1)).getD 0
    let n := m + s.wall.horizon
    (s.wall.state = .running ∨ s.wall.state = .dark) → s.wall.epoch = some e → e + m * s.period ≤ s.wall.clock →
    (∀ c ∈ s.cues.list, ∀ d, c.due = some d → n < d) → s.plan.ramp = some r → r.start ≤ n →
    ∃ t, exec (.boundary early) s = .next t ∧
      (r.length ≤ n - r.start → t.plan.level = r.target ∧ t.plan.ramp = none) ∧
      (n - r.start < r.length → t.plan.ramp = some r ∧
        (r.fromLevel ≤ r.target →
          t.plan.level = r.fromLevel + (r.target - r.fromLevel) * (n - r.start) / r.length) ∧
        (r.target ≤ r.fromLevel →
          t.plan.level = r.fromLevel - (r.fromLevel - r.target) * (n - r.start) / r.length))) ∧
  (∀ (s : State) (early : BitVec 24) (e : Nat) (c : Cue) (due patience : Nat) (onTimeout : OnTimeout), s.AtRest →
    let m := (s.wall.newest.map (· + 1)).getD 0
    let n := m + s.wall.horizon
    (s.wall.state = .running ∨ s.wall.state = .dark) → s.wall.epoch = some e → e + m * s.period ≤ s.wall.clock →
    s.cues.list.filter (fun d => d.due.any fun d => decide (d ≤ n)) = [c] → (s.cues.list.map (·.id)).Nodup →
    c.due = some due → c.gate = .ready patience onTimeout → (∀ d ∈ s.cues.list, d.id ≠ c.id → d.waiting = false) →
    s.NoTriggers →
    let retired := fun (t : State) (outcome : CueOutcome) =>
      t.cues.list = s.cues.list.filter (fun d => d.id != c.id) ∧
      (s.cues.history.length < 32 → t.cues.history = s.cues.history ++
        [{ id := c.id, owner := c.owner, kind := c.kind, outcome := outcome, refresh := some n }])
    let applied := fun t : State =>
      (∀ l, c.kind = .takeLayout l → t.layouts.lastTake = some (l, n) ∧ t.layouts.map = (s.layouts.take s.store l n).map) ∧
      ∀ st gen rate length mode, c.kind = .startAdvert st gen rate length mode → ∃ x, t.adverts.get st = some x ∧
        x.gen = gen ∧ x.start = n ∧ x.length = length ∧ x.mode = mode ∧ x.cueId = c.id
    let told := fun t : State => ∀ p, c.owner = .port p → (s.port p).link = .up → (t.port p).notices.getLsbD 0 = true
    ∃ t, exec (.boundary early) s = .next t ∧
      (s.gateOpen n c.kind = true → retired t .applied ∧ applied t) ∧
      (s.gateOpen n c.kind = false →
        (n - due < patience → t.cues.history = s.cues.history ∧ t.layouts = s.layouts ∧
          t.cues.list = s.cues.list.map fun d => if d.id = c.id then { d with waiting := true } else d) ∧
        (patience ≤ n - due → onTimeout = .force → retired t .forced ∧ applied t ∧ told t) ∧
        (patience ≤ n - due → onTimeout = .drop → retired t .dropped ∧ t.layouts = s.layouts ∧ told t))) ∧
  (∀ (s : State) (n : Nat),
    (∀ l : LayoutId, s.gateOpen n (.takeLayout l) = true ↔
      ∀ pane ∈ s.layouts.table.get l, ∀ st, pane.source = .stream st →
        (∃ j : TileId, j.val < s.layouts.geometry.cols * s.layouts.geometry.rows ∧
          s.layouts.geometry.inPane pane j.val = true) →
        ∃ y, s.adverts.get st = some y ∧
          (let target := targetOf y.mode y.length (frameNumber n y.start y.rate s.wall.rate)
           (∃ b ∈ (s.stream st).current ++ (s.stream st).pending, ∃ f, (s.buffer b).frame = some f ∧ f.gen = y.gen ∧
             f.number ≤ target) ∨
           ((s.stream st).currentGen = some y.gen ∧ ∃ c, (s.stream st).floor = some c ∧ target ≤ c))) ∧
    ∀ st gen rate length mode, s.gateOpen n (.startAdvert st gen rate length mode) = true ↔
      ∃ b ∈ (s.stream st).current ++ (s.stream st).pending, ∃ f, (s.buffer b).frame = some f ∧ f.gen = gen ∧
        f.number = 0) ∧
  ∀ (s : State) (early : BitVec 24) (e : Nat) (w c : Cue), s.AtRest →
    let m := (s.wall.newest.map (· + 1)).getD 0
    let n := m + s.wall.horizon
    (s.wall.state = .running ∨ s.wall.state = .dark) → s.wall.epoch = some e → e + m * s.period ≤ s.wall.clock →
    s.cues.list.filter (fun d => d.due.any fun d => decide (d ≤ n)) = [w, c] → (s.cues.list.map (·.id)).Nodup →
    s.gateOpen n w.kind = false → (∃ patience onTimeout due, w.gate = .ready patience onTimeout ∧ w.due = some due ∧
      n - due < patience) → c.gate = .none → (∀ d ∈ s.cues.list, d.id ≠ w.id → d.waiting = false) → s.NoTriggers →
    let same := (∃ st gen rate length mode gen' rate' length' mode', w.kind = .startAdvert st gen rate length mode ∧
        c.kind = .startAdvert st gen' rate' length' mode') ∨
      ∃ l l', w.kind = .takeLayout l ∧ c.kind = .takeLayout l' ∧
        ∃ j : TileId, j.val < s.layouts.geometry.cols * s.layouts.geometry.rows ∧
          (∃ x ∈ s.layouts.table.get l, s.layouts.geometry.inPane x j.val = true) ∧
          ∃ x ∈ s.layouts.table.get l', s.layouts.geometry.inPane x j.val = true
    ∃ t, exec (.boundary early) s = .next t ∧
      (same → t.cues.list = s.cues.list.filter (fun d => d.id != c.id && d.id != w.id) ∧
        (s.cues.history.length < 31 → t.cues.history = s.cues.history ++
          [{ id := c.id, owner := c.owner, kind := c.kind, outcome := .applied, refresh := some n },
           { id := w.id, owner := w.owner, kind := w.kind, outcome := .superseded, refresh := some n }]) ∧
        ∀ p, w.owner = .port p → (s.port p).link = .up → (t.port p).notices.getLsbD 0 = true) ∧
      (¬ same → t.cues.list = (s.cues.list.filter fun d => d.id != c.id).map
          (fun d => if d.id = w.id then { d with waiting := true } else d) ∧
        (s.cues.history.length < 32 → t.cues.history = s.cues.history ++
          [{ id := c.id, owner := c.owner, kind := c.kind, outcome := .applied, refresh := some n }]))
end

