-- ==== Sys2Proof/Laws/Table.lean ====
section
/-! SUPPORT. Reading a table or a pair after a change of it. -/

namespace Sys2Proof

namespace Table

variable {n : Nat} {α β : Type}

theorem ext_get {t u : Table n α} (h : ∀ i, t.get i = u.get i) : t = u := by
  cases t with
  | mk xs hx =>
    cases u with
    | mk ys hy =>
      have : xs = ys := by
        apply List.ext_getElem (by omega)
        intro i h1 h2
        have := h ⟨i, by omega⟩
        simpa [get] using this
      subst this
      rfl

@[simp] theorem get_set_self (t : Table n α) (i : Fin n) (x : α) : (t.set i x).get i = x := by
  show (t.rows.set i.val x)[i.val]'_ = x
  exact List.getElem_set_self _

theorem get_set_ne (t : Table n α) {i j : Fin n} (x : α) (h : j ≠ i) : (t.set i x).get j = t.get j := by
  have : i.val ≠ j.val := fun e => h (Fin.ext e.symm)
  exact List.getElem_set_ne this _

theorem get_set (t : Table n α) (i j : Fin n) (x : α) : (t.set i x).get j = if j = i then x else t.get j := by
  split
  · next h => subst h; simp
  · next h => exact get_set_ne t x h

@[simp] theorem get_modify_self (t : Table n α) (i : Fin n) (f : α → α) : (t.modify i f).get i = f (t.get i) := by
  simp [modify]

theorem get_modify_ne (t : Table n α) {i j : Fin n} (f : α → α) (h : j ≠ i) : (t.modify i f).get j = t.get j :=
  get_set_ne t _ h

theorem get_modify (t : Table n α) (i j : Fin n) (f : α → α) :
    (t.modify i f).get j = if j = i then f (t.get i) else t.get j := get_set t i j _

@[simp] theorem get_map (t : Table n α) (f : α → β) (i : Fin n) : (t.map f).get i = f (t.get i) := by
  exact List.getElem_map _

@[simp] theorem get_ofFn (f : Fin n → α) (i : Fin n) : (ofFn f).get i = f i := by
  exact List.getElem_ofFn _

@[simp] theorem get_fill (x : α) (i : Fin n) : (fill n x).get i = x := by
  exact List.getElem_replicate _

@[simp] theorem set_get (t : Table n α) (i : Fin n) : t.set i (t.get i) = t := by
  apply ext_get
  intro j
  rw [get_set]
  split
  · next h => rw [h]
  · rfl

end Table

namespace Both

variable {α : Type}

@[simp] theorem get_set_self (x : Both α) (p : PortId) (v : α) : (x.set p v).get p = v := by cases p <;> rfl

theorem get_set_ne (x : Both α) {p q : PortId} (v : α) (h : q ≠ p) : (x.set p v).get q = x.get q := by
  cases p <;> cases q <;> first | rfl | exact absurd rfl h

theorem get_set (x : Both α) (p q : PortId) (v : α) : (x.set p v).get q = if q = p then v else x.get q := by
  cases p <;> cases q <;> rfl

@[simp] theorem set_get (x : Both α) (p : PortId) : x.set p (x.get p) = x := by cases p <;> rfl

@[simp] theorem set_set (x : Both α) (p : PortId) (u v : α) : (x.set p u).set p v = x.set p v := by cases p <;> rfl

end Both

@[simp] theorem PortId.other_ne (p : PortId) : p.other ≠ p := by cases p <;> decide

/-- A fold that keeps a property at each of its steps keeps it. -/
theorem forEach_keeps {σ : Type} {n : Nat} {f : Fin n → σ → σ} (P : σ → Prop) (h : ∀ i s, P s → P (f i s)) {s : σ}
    (hs : P s) : P (forEach n f s) := by
  unfold forEach
  generalize List.finRange n = l
  induction l generalizing s with
  | nil => exact hs
  | cons i l ih => exact ih (h i s hs)

/-- A measure that no step of a `forEach` changes is unchanged by the whole. -/
theorem forEach_same {σ τ : Type} {n : Nat} {f : Fin n → σ → σ} (m : σ → τ) (h : ∀ i s, m (f i s) = m s) (s : σ) :
    m (forEach n f s) = m s :=
  forEach_keeps (fun x => m x = m s) (fun i x hx => (h i x).trans hx) rfl

/-- A measure that no step of a left fold changes is unchanged by the whole. -/
theorem foldl_same {σ τ α : Type} {f : σ → α → σ} (m : σ → τ) (h : ∀ s a, m (f s a) = m s) (l : List α) (s : σ) :
    m (l.foldl f s) = m s := by
  induction l generalizing s with
  | nil => rfl
  | cons a l ih => rw [List.foldl_cons, ih, h]

theorem satAdd_le (max x k : Nat) : satAdd max x k ≤ max := Nat.min_le_left _ _

theorem bump_le (x : Nat) : bump x ≤ countMax := satAdd_le _ _ _

end Sys2Proof
end

