-- ==== Sys2Proof/Laws/State.lean ====
section
/-! SUPPORT. What each field of the state, and each reader of one record, is after each update of one block: true by
definition, so that no later proof unfolds an update. -/

namespace Sys2Proof.Machine.State

variable (s : State)

section Wall

variable (f : WallTiming → WallTiming)

@[simp] theorem modWall_pending : (s.modWall f).pending = s.pending := rfl
@[simp] theorem modWall_resetHeld : (s.modWall f).resetHeld = s.resetHeld := rfl
@[simp] theorem modWall_wall : (s.modWall f).wall = f s.wall := rfl
@[simp] theorem modWall_cues : (s.modWall f).cues = s.cues := rfl
@[simp] theorem modWall_arbiter : (s.modWall f).arbiter = s.arbiter := rfl
@[simp] theorem modWall_layouts : (s.modWall f).layouts = s.layouts := rfl
@[simp] theorem modWall_adverts : (s.modWall f).adverts = s.adverts := rfl
@[simp] theorem modWall_plan : (s.modWall f).plan = s.plan := rfl
@[simp] theorem modWall_store : (s.modWall f).store = s.store := rfl
@[simp] theorem modWall_tiles : (s.modWall f).tiles = s.tiles := rfl
@[simp] theorem modWall_triggers : (s.modWall f).triggers = s.triggers := rfl
@[simp] theorem modWall_lines : (s.modWall f).lines = s.lines := rfl
@[simp] theorem modWall_ports : (s.modWall f).ports = s.ports := rfl
@[simp] theorem modWall_console : (s.modWall f).console = s.console := rfl
@[simp] theorem modWall_startup : (s.modWall f).startup = s.startup := rfl
@[simp] theorem modWall_pins : (s.modWall f).pins = s.pins := rfl
@[simp] theorem modWall_port (p : PortId) : (s.modWall f).port p = s.port p := rfl
@[simp] theorem modWall_linkUp (p : PortId) : (s.modWall f).linkUp p = s.linkUp p := rfl
@[simp] theorem modWall_tile (j : TileId) : (s.modWall f).tile j = s.tile j := rfl
@[simp] theorem modWall_live (j : TileId) : (s.modWall f).live j = s.live j := rfl
@[simp] theorem modWall_trigger (k : TriggerId) : (s.modWall f).trigger k = s.trigger k := rfl
@[simp] theorem modWall_line (l : LineId) : (s.modWall f).line l = s.line l := rfl
@[simp] theorem modWall_stream (st : StreamId) : (s.modWall f).stream st = s.stream st := rfl
@[simp] theorem modWall_buffer (b : BufId) : (s.modWall f).buffer b = s.buffer b := rfl
@[simp] theorem modWall_holder : (s.modWall f).holder = s.holder := rfl
@[simp] theorem modWall_group (g : GroupId) : (s.modWall f).group g = s.group g := rfl

end Wall

section Cues

variable (f : CueStore → CueStore)

@[simp] theorem modCues_pending : (s.modCues f).pending = s.pending := rfl
@[simp] theorem modCues_resetHeld : (s.modCues f).resetHeld = s.resetHeld := rfl
@[simp] theorem modCues_wall : (s.modCues f).wall = s.wall := rfl
@[simp] theorem modCues_cues : (s.modCues f).cues = f s.cues := rfl
@[simp] theorem modCues_arbiter : (s.modCues f).arbiter = s.arbiter := rfl
@[simp] theorem modCues_layouts : (s.modCues f).layouts = s.layouts := rfl
@[simp] theorem modCues_adverts : (s.modCues f).adverts = s.adverts := rfl
@[simp] theorem modCues_plan : (s.modCues f).plan = s.plan := rfl
@[simp] theorem modCues_store : (s.modCues f).store = s.store := rfl
@[simp] theorem modCues_tiles : (s.modCues f).tiles = s.tiles := rfl
@[simp] theorem modCues_triggers : (s.modCues f).triggers = s.triggers := rfl
@[simp] theorem modCues_lines : (s.modCues f).lines = s.lines := rfl
@[simp] theorem modCues_ports : (s.modCues f).ports = s.ports := rfl
@[simp] theorem modCues_console : (s.modCues f).console = s.console := rfl
@[simp] theorem modCues_startup : (s.modCues f).startup = s.startup := rfl
@[simp] theorem modCues_pins : (s.modCues f).pins = s.pins := rfl
@[simp] theorem modCues_port (p : PortId) : (s.modCues f).port p = s.port p := rfl
@[simp] theorem modCues_linkUp (p : PortId) : (s.modCues f).linkUp p = s.linkUp p := rfl
@[simp] theorem modCues_tile (j : TileId) : (s.modCues f).tile j = s.tile j := rfl
@[simp] theorem modCues_live (j : TileId) : (s.modCues f).live j = s.live j := rfl
@[simp] theorem modCues_trigger (k : TriggerId) : (s.modCues f).trigger k = s.trigger k := rfl
@[simp] theorem modCues_line (l : LineId) : (s.modCues f).line l = s.line l := rfl
@[simp] theorem modCues_stream (st : StreamId) : (s.modCues f).stream st = s.stream st := rfl
@[simp] theorem modCues_buffer (b : BufId) : (s.modCues f).buffer b = s.buffer b := rfl
@[simp] theorem modCues_period : (s.modCues f).period = s.period := rfl
@[simp] theorem modCues_wallRuns : (s.modCues f).wallRuns = s.wallRuns := rfl
@[simp] theorem modCues_group (g : GroupId) : (s.modCues f).group g = s.group g := rfl

end Cues

section Arbiter

variable (f : Arbiter → Arbiter)

@[simp] theorem modArbiter_pending : (s.modArbiter f).pending = s.pending := rfl
@[simp] theorem modArbiter_resetHeld : (s.modArbiter f).resetHeld = s.resetHeld := rfl
@[simp] theorem modArbiter_wall : (s.modArbiter f).wall = s.wall := rfl
@[simp] theorem modArbiter_cues : (s.modArbiter f).cues = s.cues := rfl
@[simp] theorem modArbiter_arbiter : (s.modArbiter f).arbiter = f s.arbiter := rfl
@[simp] theorem modArbiter_layouts : (s.modArbiter f).layouts = s.layouts := rfl
@[simp] theorem modArbiter_adverts : (s.modArbiter f).adverts = s.adverts := rfl
@[simp] theorem modArbiter_plan : (s.modArbiter f).plan = s.plan := rfl
@[simp] theorem modArbiter_store : (s.modArbiter f).store = s.store := rfl
@[simp] theorem modArbiter_tiles : (s.modArbiter f).tiles = s.tiles := rfl
@[simp] theorem modArbiter_triggers : (s.modArbiter f).triggers = s.triggers := rfl
@[simp] theorem modArbiter_lines : (s.modArbiter f).lines = s.lines := rfl
@[simp] theorem modArbiter_ports : (s.modArbiter f).ports = s.ports := rfl
@[simp] theorem modArbiter_console : (s.modArbiter f).console = s.console := rfl
@[simp] theorem modArbiter_startup : (s.modArbiter f).startup = s.startup := rfl
@[simp] theorem modArbiter_pins : (s.modArbiter f).pins = s.pins := rfl
@[simp] theorem modArbiter_port (p : PortId) : (s.modArbiter f).port p = s.port p := rfl
@[simp] theorem modArbiter_linkUp (p : PortId) : (s.modArbiter f).linkUp p = s.linkUp p := rfl
@[simp] theorem modArbiter_tile (j : TileId) : (s.modArbiter f).tile j = s.tile j := rfl
@[simp] theorem modArbiter_live (j : TileId) : (s.modArbiter f).live j = s.live j := rfl
@[simp] theorem modArbiter_trigger (k : TriggerId) : (s.modArbiter f).trigger k = s.trigger k := rfl
@[simp] theorem modArbiter_line (l : LineId) : (s.modArbiter f).line l = s.line l := rfl
@[simp] theorem modArbiter_stream (st : StreamId) : (s.modArbiter f).stream st = s.stream st := rfl
@[simp] theorem modArbiter_buffer (b : BufId) : (s.modArbiter f).buffer b = s.buffer b := rfl
@[simp] theorem modArbiter_period : (s.modArbiter f).period = s.period := rfl
@[simp] theorem modArbiter_wallRuns : (s.modArbiter f).wallRuns = s.wallRuns := rfl
@[simp] theorem modArbiter_holder : (s.modArbiter f).holder = s.holder := rfl
@[simp] theorem modArbiter_group (g : GroupId) : (s.modArbiter f).group g = s.group g := rfl

end Arbiter

section Layouts

variable (f : LayoutStore → LayoutStore)

@[simp] theorem modLayouts_pending : (s.modLayouts f).pending = s.pending := rfl
@[simp] theorem modLayouts_resetHeld : (s.modLayouts f).resetHeld = s.resetHeld := rfl
@[simp] theorem modLayouts_wall : (s.modLayouts f).wall = s.wall := rfl
@[simp] theorem modLayouts_cues : (s.modLayouts f).cues = s.cues := rfl
@[simp] theorem modLayouts_arbiter : (s.modLayouts f).arbiter = s.arbiter := rfl
@[simp] theorem modLayouts_layouts : (s.modLayouts f).layouts = f s.layouts := rfl
@[simp] theorem modLayouts_adverts : (s.modLayouts f).adverts = s.adverts := rfl
@[simp] theorem modLayouts_plan : (s.modLayouts f).plan = s.plan := rfl
@[simp] theorem modLayouts_store : (s.modLayouts f).store = s.store := rfl
@[simp] theorem modLayouts_tiles : (s.modLayouts f).tiles = s.tiles := rfl
@[simp] theorem modLayouts_triggers : (s.modLayouts f).triggers = s.triggers := rfl
@[simp] theorem modLayouts_lines : (s.modLayouts f).lines = s.lines := rfl
@[simp] theorem modLayouts_ports : (s.modLayouts f).ports = s.ports := rfl
@[simp] theorem modLayouts_console : (s.modLayouts f).console = s.console := rfl
@[simp] theorem modLayouts_startup : (s.modLayouts f).startup = s.startup := rfl
@[simp] theorem modLayouts_pins : (s.modLayouts f).pins = s.pins := rfl
@[simp] theorem modLayouts_port (p : PortId) : (s.modLayouts f).port p = s.port p := rfl
@[simp] theorem modLayouts_linkUp (p : PortId) : (s.modLayouts f).linkUp p = s.linkUp p := rfl
@[simp] theorem modLayouts_tile (j : TileId) : (s.modLayouts f).tile j = s.tile j := rfl
@[simp] theorem modLayouts_live (j : TileId) : (s.modLayouts f).live j = s.live j := rfl
@[simp] theorem modLayouts_trigger (k : TriggerId) : (s.modLayouts f).trigger k = s.trigger k := rfl
@[simp] theorem modLayouts_line (l : LineId) : (s.modLayouts f).line l = s.line l := rfl
@[simp] theorem modLayouts_stream (st : StreamId) : (s.modLayouts f).stream st = s.stream st := rfl
@[simp] theorem modLayouts_buffer (b : BufId) : (s.modLayouts f).buffer b = s.buffer b := rfl
@[simp] theorem modLayouts_period : (s.modLayouts f).period = s.period := rfl
@[simp] theorem modLayouts_wallRuns : (s.modLayouts f).wallRuns = s.wallRuns := rfl
@[simp] theorem modLayouts_holder : (s.modLayouts f).holder = s.holder := rfl
@[simp] theorem modLayouts_group (g : GroupId) : (s.modLayouts f).group g = s.group g := rfl

end Layouts

section Adverts

variable (f : Table 8 (Option Timeline) → Table 8 (Option Timeline))

@[simp] theorem modAdverts_pending : (s.modAdverts f).pending = s.pending := rfl
@[simp] theorem modAdverts_resetHeld : (s.modAdverts f).resetHeld = s.resetHeld := rfl
@[simp] theorem modAdverts_wall : (s.modAdverts f).wall = s.wall := rfl
@[simp] theorem modAdverts_cues : (s.modAdverts f).cues = s.cues := rfl
@[simp] theorem modAdverts_arbiter : (s.modAdverts f).arbiter = s.arbiter := rfl
@[simp] theorem modAdverts_layouts : (s.modAdverts f).layouts = s.layouts := rfl
@[simp] theorem modAdverts_adverts : (s.modAdverts f).adverts = f s.adverts := rfl
@[simp] theorem modAdverts_plan : (s.modAdverts f).plan = s.plan := rfl
@[simp] theorem modAdverts_store : (s.modAdverts f).store = s.store := rfl
@[simp] theorem modAdverts_tiles : (s.modAdverts f).tiles = s.tiles := rfl
@[simp] theorem modAdverts_triggers : (s.modAdverts f).triggers = s.triggers := rfl
@[simp] theorem modAdverts_lines : (s.modAdverts f).lines = s.lines := rfl
@[simp] theorem modAdverts_ports : (s.modAdverts f).ports = s.ports := rfl
@[simp] theorem modAdverts_console : (s.modAdverts f).console = s.console := rfl
@[simp] theorem modAdverts_startup : (s.modAdverts f).startup = s.startup := rfl
@[simp] theorem modAdverts_pins : (s.modAdverts f).pins = s.pins := rfl
@[simp] theorem modAdverts_port (p : PortId) : (s.modAdverts f).port p = s.port p := rfl
@[simp] theorem modAdverts_linkUp (p : PortId) : (s.modAdverts f).linkUp p = s.linkUp p := rfl
@[simp] theorem modAdverts_tile (j : TileId) : (s.modAdverts f).tile j = s.tile j := rfl
@[simp] theorem modAdverts_live (j : TileId) : (s.modAdverts f).live j = s.live j := rfl
@[simp] theorem modAdverts_trigger (k : TriggerId) : (s.modAdverts f).trigger k = s.trigger k := rfl
@[simp] theorem modAdverts_line (l : LineId) : (s.modAdverts f).line l = s.line l := rfl
@[simp] theorem modAdverts_stream (st : StreamId) : (s.modAdverts f).stream st = s.stream st := rfl
@[simp] theorem modAdverts_buffer (b : BufId) : (s.modAdverts f).buffer b = s.buffer b := rfl
@[simp] theorem modAdverts_period : (s.modAdverts f).period = s.period := rfl
@[simp] theorem modAdverts_wallRuns : (s.modAdverts f).wallRuns = s.wallRuns := rfl
@[simp] theorem modAdverts_holder : (s.modAdverts f).holder = s.holder := rfl
@[simp] theorem modAdverts_group (g : GroupId) : (s.modAdverts f).group g = s.group g := rfl

end Adverts

section Plan

variable (f : Plan → Plan)

@[simp] theorem modPlan_pending : (s.modPlan f).pending = s.pending := rfl
@[simp] theorem modPlan_resetHeld : (s.modPlan f).resetHeld = s.resetHeld := rfl
@[simp] theorem modPlan_wall : (s.modPlan f).wall = s.wall := rfl
@[simp] theorem modPlan_cues : (s.modPlan f).cues = s.cues := rfl
@[simp] theorem modPlan_arbiter : (s.modPlan f).arbiter = s.arbiter := rfl
@[simp] theorem modPlan_layouts : (s.modPlan f).layouts = s.layouts := rfl
@[simp] theorem modPlan_adverts : (s.modPlan f).adverts = s.adverts := rfl
@[simp] theorem modPlan_plan : (s.modPlan f).plan = f s.plan := rfl
@[simp] theorem modPlan_store : (s.modPlan f).store = s.store := rfl
@[simp] theorem modPlan_tiles : (s.modPlan f).tiles = s.tiles := rfl
@[simp] theorem modPlan_triggers : (s.modPlan f).triggers = s.triggers := rfl
@[simp] theorem modPlan_lines : (s.modPlan f).lines = s.lines := rfl
@[simp] theorem modPlan_ports : (s.modPlan f).ports = s.ports := rfl
@[simp] theorem modPlan_console : (s.modPlan f).console = s.console := rfl
@[simp] theorem modPlan_startup : (s.modPlan f).startup = s.startup := rfl
@[simp] theorem modPlan_pins : (s.modPlan f).pins = s.pins := rfl
@[simp] theorem modPlan_port (p : PortId) : (s.modPlan f).port p = s.port p := rfl
@[simp] theorem modPlan_linkUp (p : PortId) : (s.modPlan f).linkUp p = s.linkUp p := rfl
@[simp] theorem modPlan_tile (j : TileId) : (s.modPlan f).tile j = s.tile j := rfl
@[simp] theorem modPlan_live (j : TileId) : (s.modPlan f).live j = s.live j := rfl
@[simp] theorem modPlan_trigger (k : TriggerId) : (s.modPlan f).trigger k = s.trigger k := rfl
@[simp] theorem modPlan_line (l : LineId) : (s.modPlan f).line l = s.line l := rfl
@[simp] theorem modPlan_stream (st : StreamId) : (s.modPlan f).stream st = s.stream st := rfl
@[simp] theorem modPlan_buffer (b : BufId) : (s.modPlan f).buffer b = s.buffer b := rfl
@[simp] theorem modPlan_period : (s.modPlan f).period = s.period := rfl
@[simp] theorem modPlan_wallRuns : (s.modPlan f).wallRuns = s.wallRuns := rfl
@[simp] theorem modPlan_holder : (s.modPlan f).holder = s.holder := rfl
@[simp] theorem modPlan_group (g : GroupId) : (s.modPlan f).group g = s.group g := rfl

end Plan

section Store

variable (f : FrameStore → FrameStore)

@[simp] theorem modStore_pending : (s.modStore f).pending = s.pending := rfl
@[simp] theorem modStore_resetHeld : (s.modStore f).resetHeld = s.resetHeld := rfl
@[simp] theorem modStore_wall : (s.modStore f).wall = s.wall := rfl
@[simp] theorem modStore_cues : (s.modStore f).cues = s.cues := rfl
@[simp] theorem modStore_arbiter : (s.modStore f).arbiter = s.arbiter := rfl
@[simp] theorem modStore_layouts : (s.modStore f).layouts = s.layouts := rfl
@[simp] theorem modStore_adverts : (s.modStore f).adverts = s.adverts := rfl
@[simp] theorem modStore_plan : (s.modStore f).plan = s.plan := rfl
@[simp] theorem modStore_store : (s.modStore f).store = f s.store := rfl
@[simp] theorem modStore_tiles : (s.modStore f).tiles = s.tiles := rfl
@[simp] theorem modStore_triggers : (s.modStore f).triggers = s.triggers := rfl
@[simp] theorem modStore_lines : (s.modStore f).lines = s.lines := rfl
@[simp] theorem modStore_ports : (s.modStore f).ports = s.ports := rfl
@[simp] theorem modStore_console : (s.modStore f).console = s.console := rfl
@[simp] theorem modStore_startup : (s.modStore f).startup = s.startup := rfl
@[simp] theorem modStore_pins : (s.modStore f).pins = s.pins := rfl
@[simp] theorem modStore_port (p : PortId) : (s.modStore f).port p = s.port p := rfl
@[simp] theorem modStore_linkUp (p : PortId) : (s.modStore f).linkUp p = s.linkUp p := rfl
@[simp] theorem modStore_tile (j : TileId) : (s.modStore f).tile j = s.tile j := rfl
@[simp] theorem modStore_live (j : TileId) : (s.modStore f).live j = s.live j := rfl
@[simp] theorem modStore_trigger (k : TriggerId) : (s.modStore f).trigger k = s.trigger k := rfl
@[simp] theorem modStore_line (l : LineId) : (s.modStore f).line l = s.line l := rfl
@[simp] theorem modStore_period : (s.modStore f).period = s.period := rfl
@[simp] theorem modStore_wallRuns : (s.modStore f).wallRuns = s.wallRuns := rfl
@[simp] theorem modStore_holder : (s.modStore f).holder = s.holder := rfl
@[simp] theorem modStore_group (g : GroupId) : (s.modStore f).group g = s.group g := rfl

end Store

section Tiles

variable (f : Table 24 Tile → Table 24 Tile)

@[simp] theorem modTiles_pending : (s.modTiles f).pending = s.pending := rfl
@[simp] theorem modTiles_resetHeld : (s.modTiles f).resetHeld = s.resetHeld := rfl
@[simp] theorem modTiles_wall : (s.modTiles f).wall = s.wall := rfl
@[simp] theorem modTiles_cues : (s.modTiles f).cues = s.cues := rfl
@[simp] theorem modTiles_arbiter : (s.modTiles f).arbiter = s.arbiter := rfl
@[simp] theorem modTiles_layouts : (s.modTiles f).layouts = s.layouts := rfl
@[simp] theorem modTiles_adverts : (s.modTiles f).adverts = s.adverts := rfl
@[simp] theorem modTiles_plan : (s.modTiles f).plan = s.plan := rfl
@[simp] theorem modTiles_store : (s.modTiles f).store = s.store := rfl
@[simp] theorem modTiles_tiles : (s.modTiles f).tiles = f s.tiles := rfl
@[simp] theorem modTiles_triggers : (s.modTiles f).triggers = s.triggers := rfl
@[simp] theorem modTiles_lines : (s.modTiles f).lines = s.lines := rfl
@[simp] theorem modTiles_ports : (s.modTiles f).ports = s.ports := rfl
@[simp] theorem modTiles_console : (s.modTiles f).console = s.console := rfl
@[simp] theorem modTiles_startup : (s.modTiles f).startup = s.startup := rfl
@[simp] theorem modTiles_pins : (s.modTiles f).pins = s.pins := rfl
@[simp] theorem modTiles_port (p : PortId) : (s.modTiles f).port p = s.port p := rfl
@[simp] theorem modTiles_linkUp (p : PortId) : (s.modTiles f).linkUp p = s.linkUp p := rfl
@[simp] theorem modTiles_trigger (k : TriggerId) : (s.modTiles f).trigger k = s.trigger k := rfl
@[simp] theorem modTiles_line (l : LineId) : (s.modTiles f).line l = s.line l := rfl
@[simp] theorem modTiles_stream (st : StreamId) : (s.modTiles f).stream st = s.stream st := rfl
@[simp] theorem modTiles_buffer (b : BufId) : (s.modTiles f).buffer b = s.buffer b := rfl
@[simp] theorem modTiles_period : (s.modTiles f).period = s.period := rfl
@[simp] theorem modTiles_wallRuns : (s.modTiles f).wallRuns = s.wallRuns := rfl
@[simp] theorem modTiles_holder : (s.modTiles f).holder = s.holder := rfl
@[simp] theorem modTiles_group (g : GroupId) : (s.modTiles f).group g = s.group g := rfl

end Tiles

section Triggers

variable (f : TriggerUnit → TriggerUnit)

@[simp] theorem modTriggers_pending : (s.modTriggers f).pending = s.pending := rfl
@[simp] theorem modTriggers_resetHeld : (s.modTriggers f).resetHeld = s.resetHeld := rfl
@[simp] theorem modTriggers_wall : (s.modTriggers f).wall = s.wall := rfl
@[simp] theorem modTriggers_cues : (s.modTriggers f).cues = s.cues := rfl
@[simp] theorem modTriggers_arbiter : (s.modTriggers f).arbiter = s.arbiter := rfl
@[simp] theorem modTriggers_layouts : (s.modTriggers f).layouts = s.layouts := rfl
@[simp] theorem modTriggers_adverts : (s.modTriggers f).adverts = s.adverts := rfl
@[simp] theorem modTriggers_plan : (s.modTriggers f).plan = s.plan := rfl
@[simp] theorem modTriggers_store : (s.modTriggers f).store = s.store := rfl
@[simp] theorem modTriggers_tiles : (s.modTriggers f).tiles = s.tiles := rfl
@[simp] theorem modTriggers_triggers : (s.modTriggers f).triggers = f s.triggers := rfl
@[simp] theorem modTriggers_lines : (s.modTriggers f).lines = s.lines := rfl
@[simp] theorem modTriggers_ports : (s.modTriggers f).ports = s.ports := rfl
@[simp] theorem modTriggers_console : (s.modTriggers f).console = s.console := rfl
@[simp] theorem modTriggers_startup : (s.modTriggers f).startup = s.startup := rfl
@[simp] theorem modTriggers_pins : (s.modTriggers f).pins = s.pins := rfl
@[simp] theorem modTriggers_port (p : PortId) : (s.modTriggers f).port p = s.port p := rfl
@[simp] theorem modTriggers_linkUp (p : PortId) : (s.modTriggers f).linkUp p = s.linkUp p := rfl
@[simp] theorem modTriggers_tile (j : TileId) : (s.modTriggers f).tile j = s.tile j := rfl
@[simp] theorem modTriggers_live (j : TileId) : (s.modTriggers f).live j = s.live j := rfl
@[simp] theorem modTriggers_line (l : LineId) : (s.modTriggers f).line l = s.line l := rfl
@[simp] theorem modTriggers_stream (st : StreamId) : (s.modTriggers f).stream st = s.stream st := rfl
@[simp] theorem modTriggers_buffer (b : BufId) : (s.modTriggers f).buffer b = s.buffer b := rfl
@[simp] theorem modTriggers_period : (s.modTriggers f).period = s.period := rfl
@[simp] theorem modTriggers_wallRuns : (s.modTriggers f).wallRuns = s.wallRuns := rfl
@[simp] theorem modTriggers_holder : (s.modTriggers f).holder = s.holder := rfl
@[simp] theorem modTriggers_group (g : GroupId) : (s.modTriggers f).group g = s.group g := rfl

end Triggers

section Lines

variable (f : LineBlock → LineBlock)

@[simp] theorem modLines_pending : (s.modLines f).pending = s.pending := rfl
@[simp] theorem modLines_resetHeld : (s.modLines f).resetHeld = s.resetHeld := rfl
@[simp] theorem modLines_wall : (s.modLines f).wall = s.wall := rfl
@[simp] theorem modLines_cues : (s.modLines f).cues = s.cues := rfl
@[simp] theorem modLines_arbiter : (s.modLines f).arbiter = s.arbiter := rfl
@[simp] theorem modLines_layouts : (s.modLines f).layouts = s.layouts := rfl
@[simp] theorem modLines_adverts : (s.modLines f).adverts = s.adverts := rfl
@[simp] theorem modLines_plan : (s.modLines f).plan = s.plan := rfl
@[simp] theorem modLines_store : (s.modLines f).store = s.store := rfl
@[simp] theorem modLines_tiles : (s.modLines f).tiles = s.tiles := rfl
@[simp] theorem modLines_triggers : (s.modLines f).triggers = s.triggers := rfl
@[simp] theorem modLines_lines : (s.modLines f).lines = f s.lines := rfl
@[simp] theorem modLines_ports : (s.modLines f).ports = s.ports := rfl
@[simp] theorem modLines_console : (s.modLines f).console = s.console := rfl
@[simp] theorem modLines_startup : (s.modLines f).startup = s.startup := rfl
@[simp] theorem modLines_pins : (s.modLines f).pins = s.pins := rfl
@[simp] theorem modLines_port (p : PortId) : (s.modLines f).port p = s.port p := rfl
@[simp] theorem modLines_linkUp (p : PortId) : (s.modLines f).linkUp p = s.linkUp p := rfl
@[simp] theorem modLines_tile (j : TileId) : (s.modLines f).tile j = s.tile j := rfl
@[simp] theorem modLines_live (j : TileId) : (s.modLines f).live j = s.live j := rfl
@[simp] theorem modLines_trigger (k : TriggerId) : (s.modLines f).trigger k = s.trigger k := rfl
@[simp] theorem modLines_stream (st : StreamId) : (s.modLines f).stream st = s.stream st := rfl
@[simp] theorem modLines_buffer (b : BufId) : (s.modLines f).buffer b = s.buffer b := rfl
@[simp] theorem modLines_period : (s.modLines f).period = s.period := rfl
@[simp] theorem modLines_wallRuns : (s.modLines f).wallRuns = s.wallRuns := rfl
@[simp] theorem modLines_holder : (s.modLines f).holder = s.holder := rfl
@[simp] theorem modLines_group (g : GroupId) : (s.modLines f).group g = s.group g := rfl

end Lines

section Ports

variable (f : Both Port → Both Port)

@[simp] theorem modPorts_pending : (s.modPorts f).pending = s.pending := rfl
@[simp] theorem modPorts_resetHeld : (s.modPorts f).resetHeld = s.resetHeld := rfl
@[simp] theorem modPorts_wall : (s.modPorts f).wall = s.wall := rfl
@[simp] theorem modPorts_cues : (s.modPorts f).cues = s.cues := rfl
@[simp] theorem modPorts_arbiter : (s.modPorts f).arbiter = s.arbiter := rfl
@[simp] theorem modPorts_layouts : (s.modPorts f).layouts = s.layouts := rfl
@[simp] theorem modPorts_adverts : (s.modPorts f).adverts = s.adverts := rfl
@[simp] theorem modPorts_plan : (s.modPorts f).plan = s.plan := rfl
@[simp] theorem modPorts_store : (s.modPorts f).store = s.store := rfl
@[simp] theorem modPorts_tiles : (s.modPorts f).tiles = s.tiles := rfl
@[simp] theorem modPorts_triggers : (s.modPorts f).triggers = s.triggers := rfl
@[simp] theorem modPorts_lines : (s.modPorts f).lines = s.lines := rfl
@[simp] theorem modPorts_ports : (s.modPorts f).ports = f s.ports := rfl
@[simp] theorem modPorts_console : (s.modPorts f).console = s.console := rfl
@[simp] theorem modPorts_startup : (s.modPorts f).startup = s.startup := rfl
@[simp] theorem modPorts_pins : (s.modPorts f).pins = s.pins := rfl
@[simp] theorem modPorts_tile (j : TileId) : (s.modPorts f).tile j = s.tile j := rfl
@[simp] theorem modPorts_live (j : TileId) : (s.modPorts f).live j = s.live j := rfl
@[simp] theorem modPorts_trigger (k : TriggerId) : (s.modPorts f).trigger k = s.trigger k := rfl
@[simp] theorem modPorts_line (l : LineId) : (s.modPorts f).line l = s.line l := rfl
@[simp] theorem modPorts_stream (st : StreamId) : (s.modPorts f).stream st = s.stream st := rfl
@[simp] theorem modPorts_buffer (b : BufId) : (s.modPorts f).buffer b = s.buffer b := rfl
@[simp] theorem modPorts_period : (s.modPorts f).period = s.period := rfl
@[simp] theorem modPorts_wallRuns : (s.modPorts f).wallRuns = s.wallRuns := rfl
@[simp] theorem modPorts_holder : (s.modPorts f).holder = s.holder := rfl
@[simp] theorem modPorts_group (g : GroupId) : (s.modPorts f).group g = s.group g := rfl

end Ports

section Console

variable (f : Console → Console)

@[simp] theorem modConsole_pending : (s.modConsole f).pending = s.pending := rfl
@[simp] theorem modConsole_resetHeld : (s.modConsole f).resetHeld = s.resetHeld := rfl
@[simp] theorem modConsole_wall : (s.modConsole f).wall = s.wall := rfl
@[simp] theorem modConsole_cues : (s.modConsole f).cues = s.cues := rfl
@[simp] theorem modConsole_arbiter : (s.modConsole f).arbiter = s.arbiter := rfl
@[simp] theorem modConsole_layouts : (s.modConsole f).layouts = s.layouts := rfl
@[simp] theorem modConsole_adverts : (s.modConsole f).adverts = s.adverts := rfl
@[simp] theorem modConsole_plan : (s.modConsole f).plan = s.plan := rfl
@[simp] theorem modConsole_store : (s.modConsole f).store = s.store := rfl
@[simp] theorem modConsole_tiles : (s.modConsole f).tiles = s.tiles := rfl
@[simp] theorem modConsole_triggers : (s.modConsole f).triggers = s.triggers := rfl
@[simp] theorem modConsole_lines : (s.modConsole f).lines = s.lines := rfl
@[simp] theorem modConsole_ports : (s.modConsole f).ports = s.ports := rfl
@[simp] theorem modConsole_console : (s.modConsole f).console = f s.console := rfl
@[simp] theorem modConsole_startup : (s.modConsole f).startup = s.startup := rfl
@[simp] theorem modConsole_pins : (s.modConsole f).pins = s.pins := rfl
@[simp] theorem modConsole_port (p : PortId) : (s.modConsole f).port p = s.port p := rfl
@[simp] theorem modConsole_linkUp (p : PortId) : (s.modConsole f).linkUp p = s.linkUp p := rfl
@[simp] theorem modConsole_tile (j : TileId) : (s.modConsole f).tile j = s.tile j := rfl
@[simp] theorem modConsole_live (j : TileId) : (s.modConsole f).live j = s.live j := rfl
@[simp] theorem modConsole_trigger (k : TriggerId) : (s.modConsole f).trigger k = s.trigger k := rfl
@[simp] theorem modConsole_line (l : LineId) : (s.modConsole f).line l = s.line l := rfl
@[simp] theorem modConsole_stream (st : StreamId) : (s.modConsole f).stream st = s.stream st := rfl
@[simp] theorem modConsole_buffer (b : BufId) : (s.modConsole f).buffer b = s.buffer b := rfl
@[simp] theorem modConsole_period : (s.modConsole f).period = s.period := rfl
@[simp] theorem modConsole_wallRuns : (s.modConsole f).wallRuns = s.wallRuns := rfl
@[simp] theorem modConsole_holder : (s.modConsole f).holder = s.holder := rfl
@[simp] theorem modConsole_group (g : GroupId) : (s.modConsole f).group g = s.group g := rfl

end Console

section Startup

variable (f : Startup → Startup)

@[simp] theorem modStartup_pending : (s.modStartup f).pending = s.pending := rfl
@[simp] theorem modStartup_resetHeld : (s.modStartup f).resetHeld = s.resetHeld := rfl
@[simp] theorem modStartup_wall : (s.modStartup f).wall = s.wall := rfl
@[simp] theorem modStartup_cues : (s.modStartup f).cues = s.cues := rfl
@[simp] theorem modStartup_arbiter : (s.modStartup f).arbiter = s.arbiter := rfl
@[simp] theorem modStartup_layouts : (s.modStartup f).layouts = s.layouts := rfl
@[simp] theorem modStartup_adverts : (s.modStartup f).adverts = s.adverts := rfl
@[simp] theorem modStartup_plan : (s.modStartup f).plan = s.plan := rfl
@[simp] theorem modStartup_store : (s.modStartup f).store = s.store := rfl
@[simp] theorem modStartup_tiles : (s.modStartup f).tiles = s.tiles := rfl
@[simp] theorem modStartup_triggers : (s.modStartup f).triggers = s.triggers := rfl
@[simp] theorem modStartup_lines : (s.modStartup f).lines = s.lines := rfl
@[simp] theorem modStartup_ports : (s.modStartup f).ports = s.ports := rfl
@[simp] theorem modStartup_console : (s.modStartup f).console = s.console := rfl
@[simp] theorem modStartup_startup : (s.modStartup f).startup = f s.startup := rfl
@[simp] theorem modStartup_pins : (s.modStartup f).pins = s.pins := rfl
@[simp] theorem modStartup_port (p : PortId) : (s.modStartup f).port p = s.port p := rfl
@[simp] theorem modStartup_linkUp (p : PortId) : (s.modStartup f).linkUp p = s.linkUp p := rfl
@[simp] theorem modStartup_tile (j : TileId) : (s.modStartup f).tile j = s.tile j := rfl
@[simp] theorem modStartup_live (j : TileId) : (s.modStartup f).live j = s.live j := rfl
@[simp] theorem modStartup_trigger (k : TriggerId) : (s.modStartup f).trigger k = s.trigger k := rfl
@[simp] theorem modStartup_line (l : LineId) : (s.modStartup f).line l = s.line l := rfl
@[simp] theorem modStartup_stream (st : StreamId) : (s.modStartup f).stream st = s.stream st := rfl
@[simp] theorem modStartup_buffer (b : BufId) : (s.modStartup f).buffer b = s.buffer b := rfl
@[simp] theorem modStartup_period : (s.modStartup f).period = s.period := rfl
@[simp] theorem modStartup_wallRuns : (s.modStartup f).wallRuns = s.wallRuns := rfl
@[simp] theorem modStartup_holder : (s.modStartup f).holder = s.holder := rfl

end Startup

section Pins

variable (f : Pins → Pins)

@[simp] theorem modPins_pending : (s.modPins f).pending = s.pending := rfl
@[simp] theorem modPins_resetHeld : (s.modPins f).resetHeld = s.resetHeld := rfl
@[simp] theorem modPins_wall : (s.modPins f).wall = s.wall := rfl
@[simp] theorem modPins_cues : (s.modPins f).cues = s.cues := rfl
@[simp] theorem modPins_arbiter : (s.modPins f).arbiter = s.arbiter := rfl
@[simp] theorem modPins_layouts : (s.modPins f).layouts = s.layouts := rfl
@[simp] theorem modPins_adverts : (s.modPins f).adverts = s.adverts := rfl
@[simp] theorem modPins_plan : (s.modPins f).plan = s.plan := rfl
@[simp] theorem modPins_store : (s.modPins f).store = s.store := rfl
@[simp] theorem modPins_tiles : (s.modPins f).tiles = s.tiles := rfl
@[simp] theorem modPins_triggers : (s.modPins f).triggers = s.triggers := rfl
@[simp] theorem modPins_lines : (s.modPins f).lines = s.lines := rfl
@[simp] theorem modPins_ports : (s.modPins f).ports = s.ports := rfl
@[simp] theorem modPins_console : (s.modPins f).console = s.console := rfl
@[simp] theorem modPins_startup : (s.modPins f).startup = s.startup := rfl
@[simp] theorem modPins_pins : (s.modPins f).pins = f s.pins := rfl
@[simp] theorem modPins_port (p : PortId) : (s.modPins f).port p = s.port p := rfl
@[simp] theorem modPins_linkUp (p : PortId) : (s.modPins f).linkUp p = s.linkUp p := rfl
@[simp] theorem modPins_tile (j : TileId) : (s.modPins f).tile j = s.tile j := rfl
@[simp] theorem modPins_live (j : TileId) : (s.modPins f).live j = s.live j := rfl
@[simp] theorem modPins_trigger (k : TriggerId) : (s.modPins f).trigger k = s.trigger k := rfl
@[simp] theorem modPins_line (l : LineId) : (s.modPins f).line l = s.line l := rfl
@[simp] theorem modPins_stream (st : StreamId) : (s.modPins f).stream st = s.stream st := rfl
@[simp] theorem modPins_buffer (b : BufId) : (s.modPins f).buffer b = s.buffer b := rfl
@[simp] theorem modPins_period : (s.modPins f).period = s.period := rfl
@[simp] theorem modPins_wallRuns : (s.modPins f).wallRuns = s.wallRuns := rfl
@[simp] theorem modPins_holder : (s.modPins f).holder = s.holder := rfl
@[simp] theorem modPins_group (g : GroupId) : (s.modPins f).group g = s.group g := rfl

end Pins

/-! ### One record changed -/

section Records

variable (p q : PortId) (j i : TileId) (k m : TriggerId) (l n : LineId)

@[simp] theorem modPort_port_self (f : Port → Port) : (s.modPort p f).port p = f (s.port p) := Both.get_set_self _ _ _

theorem modPort_port_ne (f : Port → Port) {p q : PortId} (h : q ≠ p) : (s.modPort p f).port q = s.port q :=
  Both.get_set_ne _ _ h

@[simp] theorem modTile_tile_self (f : Tile → Tile) : (s.modTile j f).tile j = f (s.tile j) :=
  Table.get_modify_self _ _ _

theorem modTile_tile_ne (f : Tile → Tile) {i j : TileId} (h : i ≠ j) : (s.modTile j f).tile i = s.tile i :=
  Table.get_modify_ne _ _ h

@[simp] theorem modTrigger_trigger_self (f : Trigger → Trigger) : (s.modTrigger k f).trigger k = f (s.trigger k) :=
  Table.get_modify_self _ _ _

theorem modTrigger_trigger_ne (f : Trigger → Trigger) {k m : TriggerId} (h : m ≠ k) :
    (s.modTrigger k f).trigger m = s.trigger m := Table.get_modify_ne _ _ h

@[simp] theorem modLine_line_self (f : Line → Line) : (s.modLine l f).line l = f (s.line l) :=
  Table.get_modify_self _ _ _

theorem modLine_line_ne (f : Line → Line) {l n : LineId} (h : n ≠ l) : (s.modLine l f).line n = s.line n :=
  Table.get_modify_ne _ _ h

@[simp] theorem modPort_pending (f : Port → Port) : (s.modPort p f).pending = s.pending := rfl
@[simp] theorem modPort_resetHeld (f : Port → Port) : (s.modPort p f).resetHeld = s.resetHeld := rfl
@[simp] theorem modPort_wall (f : Port → Port) : (s.modPort p f).wall = s.wall := rfl
@[simp] theorem modPort_cues (f : Port → Port) : (s.modPort p f).cues = s.cues := rfl
@[simp] theorem modPort_arbiter (f : Port → Port) : (s.modPort p f).arbiter = s.arbiter := rfl
@[simp] theorem modPort_layouts (f : Port → Port) : (s.modPort p f).layouts = s.layouts := rfl
@[simp] theorem modPort_adverts (f : Port → Port) : (s.modPort p f).adverts = s.adverts := rfl
@[simp] theorem modPort_plan (f : Port → Port) : (s.modPort p f).plan = s.plan := rfl
@[simp] theorem modPort_store (f : Port → Port) : (s.modPort p f).store = s.store := rfl
@[simp] theorem modPort_tiles (f : Port → Port) : (s.modPort p f).tiles = s.tiles := rfl
@[simp] theorem modPort_triggers (f : Port → Port) : (s.modPort p f).triggers = s.triggers := rfl
@[simp] theorem modPort_lines (f : Port → Port) : (s.modPort p f).lines = s.lines := rfl
@[simp] theorem modPort_console (f : Port → Port) : (s.modPort p f).console = s.console := rfl
@[simp] theorem modPort_startup (f : Port → Port) : (s.modPort p f).startup = s.startup := rfl
@[simp] theorem modPort_pins (f : Port → Port) : (s.modPort p f).pins = s.pins := rfl
@[simp] theorem modPort_tile (f : Port → Port) : (s.modPort p f).tile i = s.tile i := rfl
@[simp] theorem modPort_live (f : Port → Port) : (s.modPort p f).live i = s.live i := rfl
@[simp] theorem modPort_trigger (f : Port → Port) : (s.modPort p f).trigger m = s.trigger m := rfl
@[simp] theorem modPort_line (f : Port → Port) : (s.modPort p f).line n = s.line n := rfl
@[simp] theorem modPort_stream (f : Port → Port) (st : StreamId) : (s.modPort p f).stream st = s.stream st := rfl
@[simp] theorem modPort_buffer (f : Port → Port) (b : BufId) : (s.modPort p f).buffer b = s.buffer b := rfl
@[simp] theorem modPort_period (f : Port → Port) : (s.modPort p f).period = s.period := rfl
@[simp] theorem modPort_wallRuns (f : Port → Port) : (s.modPort p f).wallRuns = s.wallRuns := rfl
@[simp] theorem modPort_holder (f : Port → Port) : (s.modPort p f).holder = s.holder := rfl
@[simp] theorem modPort_group (f : Port → Port) (g : GroupId) : (s.modPort p f).group g = s.group g := rfl

@[simp] theorem modTile_pending (f : Tile → Tile) : (s.modTile j f).pending = s.pending := rfl
@[simp] theorem modTile_resetHeld (f : Tile → Tile) : (s.modTile j f).resetHeld = s.resetHeld := rfl
@[simp] theorem modTile_wall (f : Tile → Tile) : (s.modTile j f).wall = s.wall := rfl
@[simp] theorem modTile_cues (f : Tile → Tile) : (s.modTile j f).cues = s.cues := rfl
@[simp] theorem modTile_arbiter (f : Tile → Tile) : (s.modTile j f).arbiter = s.arbiter := rfl
@[simp] theorem modTile_layouts (f : Tile → Tile) : (s.modTile j f).layouts = s.layouts := rfl
@[simp] theorem modTile_adverts (f : Tile → Tile) : (s.modTile j f).adverts = s.adverts := rfl
@[simp] theorem modTile_plan (f : Tile → Tile) : (s.modTile j f).plan = s.plan := rfl
@[simp] theorem modTile_store (f : Tile → Tile) : (s.modTile j f).store = s.store := rfl
@[simp] theorem modTile_triggers (f : Tile → Tile) : (s.modTile j f).triggers = s.triggers := rfl
@[simp] theorem modTile_lines (f : Tile → Tile) : (s.modTile j f).lines = s.lines := rfl
@[simp] theorem modTile_ports (f : Tile → Tile) : (s.modTile j f).ports = s.ports := rfl
@[simp] theorem modTile_console (f : Tile → Tile) : (s.modTile j f).console = s.console := rfl
@[simp] theorem modTile_startup (f : Tile → Tile) : (s.modTile j f).startup = s.startup := rfl
@[simp] theorem modTile_pins (f : Tile → Tile) : (s.modTile j f).pins = s.pins := rfl
@[simp] theorem modTile_port (f : Tile → Tile) : (s.modTile j f).port q = s.port q := rfl
@[simp] theorem modTile_linkUp (f : Tile → Tile) : (s.modTile j f).linkUp q = s.linkUp q := rfl
@[simp] theorem modTile_trigger (f : Tile → Tile) : (s.modTile j f).trigger m = s.trigger m := rfl
@[simp] theorem modTile_line (f : Tile → Tile) : (s.modTile j f).line n = s.line n := rfl
@[simp] theorem modTile_stream (f : Tile → Tile) (st : StreamId) : (s.modTile j f).stream st = s.stream st := rfl
@[simp] theorem modTile_buffer (f : Tile → Tile) (b : BufId) : (s.modTile j f).buffer b = s.buffer b := rfl
@[simp] theorem modTile_period (f : Tile → Tile) : (s.modTile j f).period = s.period := rfl
@[simp] theorem modTile_wallRuns (f : Tile → Tile) : (s.modTile j f).wallRuns = s.wallRuns := rfl
@[simp] theorem modTile_holder (f : Tile → Tile) : (s.modTile j f).holder = s.holder := rfl
@[simp] theorem modTile_group (f : Tile → Tile) (g : GroupId) : (s.modTile j f).group g = s.group g := rfl

@[simp] theorem modTrigger_pending (f : Trigger → Trigger) : (s.modTrigger k f).pending = s.pending := rfl
@[simp] theorem modTrigger_resetHeld (f : Trigger → Trigger) : (s.modTrigger k f).resetHeld = s.resetHeld := rfl
@[simp] theorem modTrigger_wall (f : Trigger → Trigger) : (s.modTrigger k f).wall = s.wall := rfl
@[simp] theorem modTrigger_cues (f : Trigger → Trigger) : (s.modTrigger k f).cues = s.cues := rfl
@[simp] theorem modTrigger_arbiter (f : Trigger → Trigger) : (s.modTrigger k f).arbiter = s.arbiter := rfl
@[simp] theorem modTrigger_layouts (f : Trigger → Trigger) : (s.modTrigger k f).layouts = s.layouts := rfl
@[simp] theorem modTrigger_adverts (f : Trigger → Trigger) : (s.modTrigger k f).adverts = s.adverts := rfl
@[simp] theorem modTrigger_plan (f : Trigger → Trigger) : (s.modTrigger k f).plan = s.plan := rfl
@[simp] theorem modTrigger_store (f : Trigger → Trigger) : (s.modTrigger k f).store = s.store := rfl
@[simp] theorem modTrigger_tiles (f : Trigger → Trigger) : (s.modTrigger k f).tiles = s.tiles := rfl
@[simp] theorem modTrigger_lines (f : Trigger → Trigger) : (s.modTrigger k f).lines = s.lines := rfl
@[simp] theorem modTrigger_ports (f : Trigger → Trigger) : (s.modTrigger k f).ports = s.ports := rfl
@[simp] theorem modTrigger_console (f : Trigger → Trigger) : (s.modTrigger k f).console = s.console := rfl
@[simp] theorem modTrigger_startup (f : Trigger → Trigger) : (s.modTrigger k f).startup = s.startup := rfl
@[simp] theorem modTrigger_pins (f : Trigger → Trigger) : (s.modTrigger k f).pins = s.pins := rfl
@[simp] theorem modTrigger_port (f : Trigger → Trigger) : (s.modTrigger k f).port q = s.port q := rfl
@[simp] theorem modTrigger_linkUp (f : Trigger → Trigger) : (s.modTrigger k f).linkUp q = s.linkUp q := rfl
@[simp] theorem modTrigger_tile (f : Trigger → Trigger) : (s.modTrigger k f).tile i = s.tile i := rfl
@[simp] theorem modTrigger_live (f : Trigger → Trigger) : (s.modTrigger k f).live i = s.live i := rfl
@[simp] theorem modTrigger_line (f : Trigger → Trigger) : (s.modTrigger k f).line n = s.line n := rfl
@[simp] theorem modTrigger_stream (f : Trigger → Trigger) (st : StreamId) : (s.modTrigger k f).stream st = s.stream st := rfl
@[simp] theorem modTrigger_buffer (f : Trigger → Trigger) (b : BufId) : (s.modTrigger k f).buffer b = s.buffer b := rfl
@[simp] theorem modTrigger_period (f : Trigger → Trigger) : (s.modTrigger k f).period = s.period := rfl
@[simp] theorem modTrigger_wallRuns (f : Trigger → Trigger) : (s.modTrigger k f).wallRuns = s.wallRuns := rfl
@[simp] theorem modTrigger_holder (f : Trigger → Trigger) : (s.modTrigger k f).holder = s.holder := rfl
@[simp] theorem modTrigger_group (f : Trigger → Trigger) (g : GroupId) : (s.modTrigger k f).group g = s.group g := rfl

@[simp] theorem modLine_pending (f : Line → Line) : (s.modLine l f).pending = s.pending := rfl
@[simp] theorem modLine_resetHeld (f : Line → Line) : (s.modLine l f).resetHeld = s.resetHeld := rfl
@[simp] theorem modLine_wall (f : Line → Line) : (s.modLine l f).wall = s.wall := rfl
@[simp] theorem modLine_cues (f : Line → Line) : (s.modLine l f).cues = s.cues := rfl
@[simp] theorem modLine_arbiter (f : Line → Line) : (s.modLine l f).arbiter = s.arbiter := rfl
@[simp] theorem modLine_layouts (f : Line → Line) : (s.modLine l f).layouts = s.layouts := rfl
@[simp] theorem modLine_adverts (f : Line → Line) : (s.modLine l f).adverts = s.adverts := rfl
@[simp] theorem modLine_plan (f : Line → Line) : (s.modLine l f).plan = s.plan := rfl
@[simp] theorem modLine_store (f : Line → Line) : (s.modLine l f).store = s.store := rfl
@[simp] theorem modLine_tiles (f : Line → Line) : (s.modLine l f).tiles = s.tiles := rfl
@[simp] theorem modLine_triggers (f : Line → Line) : (s.modLine l f).triggers = s.triggers := rfl
@[simp] theorem modLine_ports (f : Line → Line) : (s.modLine l f).ports = s.ports := rfl
@[simp] theorem modLine_console (f : Line → Line) : (s.modLine l f).console = s.console := rfl
@[simp] theorem modLine_startup (f : Line → Line) : (s.modLine l f).startup = s.startup := rfl
@[simp] theorem modLine_pins (f : Line → Line) : (s.modLine l f).pins = s.pins := rfl
@[simp] theorem modLine_port (f : Line → Line) : (s.modLine l f).port q = s.port q := rfl
@[simp] theorem modLine_linkUp (f : Line → Line) : (s.modLine l f).linkUp q = s.linkUp q := rfl
@[simp] theorem modLine_tile (f : Line → Line) : (s.modLine l f).tile i = s.tile i := rfl
@[simp] theorem modLine_live (f : Line → Line) : (s.modLine l f).live i = s.live i := rfl
@[simp] theorem modLine_trigger (f : Line → Line) : (s.modLine l f).trigger m = s.trigger m := rfl
@[simp] theorem modLine_stream (f : Line → Line) (st : StreamId) : (s.modLine l f).stream st = s.stream st := rfl
@[simp] theorem modLine_buffer (f : Line → Line) (b : BufId) : (s.modLine l f).buffer b = s.buffer b := rfl
@[simp] theorem modLine_period (f : Line → Line) : (s.modLine l f).period = s.period := rfl
@[simp] theorem modLine_wallRuns (f : Line → Line) : (s.modLine l f).wallRuns = s.wallRuns := rfl
@[simp] theorem modLine_holder (f : Line → Line) : (s.modLine l f).holder = s.holder := rfl
@[simp] theorem modLine_group (f : Line → Line) (g : GroupId) : (s.modLine l f).group g = s.group g := rfl

@[simp] theorem modTrigger_values (f : Trigger → Trigger) : (s.modTrigger k f).triggers.values = s.triggers.values := rfl
@[simp] theorem modTrigger_posts (f : Trigger → Trigger) : (s.modTrigger k f).triggers.posts = s.triggers.posts := rfl
@[simp] theorem modTrigger_error (f : Trigger → Trigger) : (s.modTrigger k f).triggers.error = s.triggers.error := rfl
@[simp] theorem modTrigger_disableOnError (f : Trigger → Trigger) : (s.modTrigger k f).triggers.disableOnError = s.triggers.disableOnError := rfl
@[simp] theorem modTrigger_timers (f : Trigger → Trigger) : (s.modTrigger k f).triggers.timers = s.triggers.timers := rfl
@[simp] theorem modLine_pulseWidth (f : Line → Line) : (s.modLine l f).lines.pulseWidth = s.lines.pulseWidth := rfl
@[simp] theorem modLine_dark (f : Line → Line) : (s.modLine l f).lines.dark = s.lines.dark := rfl
@[simp] theorem modLine_schedule (f : Line → Line) : (s.modLine l f).lines.schedule = s.lines.schedule := rfl

end Records

section Console

variable {s} (out : List ConsoleOut)

/-- In TESTING the console that comes back enters TEST, its counts at 0 (R176; log 41). -/
theorem consoleBack_testing (h : s.wall.state = .testing) : s.consoleBack out = { s with console := { s.console with
    mode := .test, passes := 0, errors := 0, inPass := 0, printed := s.console.printed ++ out ++ [.testing] } } := by
  simp only [consoleBack, h, if_true]
  rfl

/-- In any other wall state it returns to PROMPT (R173, R177). -/
theorem consoleBack_prompt (h : s.wall.state ≠ .testing) : s.consoleBack out = { s with console := { s.console with
    mode := .prompt, printed := s.console.printed ++ out ++ [.prompt] } } := by
  simp only [consoleBack, h, if_false]
  rfl

/-- It changes the console alone. -/
theorem consoleBack_eq : s.consoleBack out = { s with console := (s.consoleBack out).console } := by
  unfold consoleBack
  split <;> rfl

end Console

section HandingOn

variable (st : StreamId) (gen : Option Nat)

/-- Handing a pending generation on changes the plan's waiting list and the frame store alone. -/
theorem handPending_eq : s.handPending st gen =
    { s with plan := (s.handPending st gen).plan, store := s.store.setPending st gen } := rfl

/-- It leaves no other pending generation waiting (R41; log 63). -/
theorem handPending_handoffs : (s.handPending st gen).plan.handoffs.get st =
    (s.plan.handoffs.get st).filter fun h => !h.isPending := by simp [handPending]

/-- The Frame Store Controller holds it at once (R41, R83). -/
theorem handPending_pendingGen : ((s.handPending st gen).stream st).pendingGen = gen := by
  simp only [handPending, modStore, stream, FrameStore.setPending]
  split
  · exact (‹gen = _›).symm
  · simp [FrameStore.modStream]

end HandingOn

/-- The entries that stay in a plan: those not yet at their boundary, and those with a record still OPEN (R103). -/
theorem mem_prune {e : PlanEntry} {newest : Option Nat} {p : Plan} : e ∈ (p.prune newest).entries ↔
    e ∈ p.entries ∧ ((∀ m, newest = some m → m < e.refresh) ∨ e.spent = false) := by
  cases newest <;> simp [Plan.prune]

end Sys2Proof.Machine.State
end

