-- ==== Sys2Proof/Laws/Settle.lean ====
section
/-! SUPPORT. What `arbitrate` and `settle` can change, and that a settled state stays as it is. -/

namespace Sys2Proof.Machine.State

/-! ### The arbiter's choice depends on the claims alone -/

/-- Two states in which the same claims stand at the same arbiter. -/
structure SameClaims (s t : State) : Prop where
  arbiter : t.arbiter = s.arbiter
  posts : t.triggers.posts = s.triggers.posts
  progress : ∀ p, (t.port p).inProgress = (s.port p).inProgress

theorem SameClaims.claimOf {s t : State} (h : SameClaims s t) (r : Requester) : t.claimOf r = s.claimOf r := by
  cases r with
  | port p => simp only [State.claimOf, State.portClaim, h.progress]
  | console => simp only [State.claimOf, h.arbiter]
  | trigger => simp only [State.claimOf, h.posts]

theorem SameClaims.choose {s t : State} (h : SameClaims s t) : t.choose = s.choose := by
  have hc : t.claimOf = s.claimOf := funext h.claimOf
  have hl : t.lowChoice = s.lowChoice := by simp only [State.lowChoice, h.arbiter, hc]
  simp only [State.choose, State.highChoice, h.arbiter, hc, hl]

/-- What `arbitrate` does: it grants nothing and changes nothing, or it grants one claim. -/
theorem arbitrate_cases (s : State) :
    (s.arbitrate = s ∧ (s.arbiter.granted.isSome ∨ ∀ r a, s.choose = some (r, a) → s.claimOf r = none)) ∨
    ∃ r a c op, s.arbiter.granted = none ∧ s.choose = some (r, a) ∧ s.claimOf r = some (c, op) ∧
      s.arbitrate =
        ({ s with arbiter := { a with granted := some { claimant := c, op := op, answered := true } } }).takeClaim c := by
  unfold arbitrate
  split
  · next g hg => exact .inl ⟨rfl, .inl (by simp [hg])⟩
  · next hg =>
    split
    · next hc => exact .inl ⟨rfl, .inr (by simp [hc])⟩
    · next r a hc =>
      split
      · next hr => exact .inl ⟨rfl, .inr (by simp [hc, hr])⟩
      · next c op hr => exact .inr ⟨r, a, c, op, hg, hc, hr, rfl⟩

@[simp] theorem takeClaim_granted (c : ClaimFrom) (s : State) : (s.takeClaim c).arbiter.granted = s.arbiter.granted := by
  cases c <;> rfl

theorem arbitrate_eq_self_iff (s : State) :
    s.arbitrate = s ↔ s.arbiter.granted.isSome ∨ ∀ r a, s.choose = some (r, a) → s.claimOf r = none := by
  constructor
  · intro h
    rcases arbitrate_cases s with ⟨_, hq⟩ | ⟨r, a, c, op, hg, _, _, he⟩
    · exact hq
    · have := congrArg (fun x => x.arbiter.granted) (h.symm.trans he)
      simp [hg] at this
  · intro h
    rcases arbitrate_cases s with ⟨he, _⟩ | ⟨r, a, c, op, hg, hc, hr, _⟩
    · exact he
    · rcases h with h | h
      · simp [hg] at h
      · simp [h r a hc] at hr

theorem arbitrate_idem (s : State) : s.arbitrate.arbitrate = s.arbitrate := by
  rcases arbitrate_cases s with ⟨he, _⟩ | ⟨r, a, c, op, _, _, _, he⟩
  · rw [he, he]
  · rw [he]
    exact (arbitrate_eq_self_iff _).2 (.inl (by simp))

theorem SameClaims.arbitrate_self {s t : State} (h : SameClaims s t) (hs : s.arbitrate = s) : t.arbitrate = t := by
  rw [arbitrate_eq_self_iff] at hs ⊢
  simpa only [h.arbiter, h.choose, h.claimOf] using hs

/-! ### What `arbitrate` leaves alone -/

section Arbitrate

variable (s : State)

/-- A reader that neither the arbiter nor a port's grant mark reaches is unchanged by `arbitrate`. -/
theorem arbitrate_same {τ : Type} (m : State → τ) (ha : ∀ s f, m (modArbiter f s) = m s)
    (hp : ∀ s p f, m (setProgress p f s) = m s) : m s.arbitrate = m s := by
  rcases arbitrate_cases s with ⟨he, _⟩ | ⟨r, a, c, op, _, _, _, he⟩
  · rw [he]
  · rw [he]
    have h0 : m { s with arbiter := { a with granted := some { claimant := c, op := op, answered := true } } } = m s :=
      ha s fun _ => { a with granted := some { claimant := c, op := op, answered := true } }
    cases c with
    | port p => exact (hp _ p _).trans h0
    | typed => exact (ha _ fun a => { a with typedClaim := none }).trans h0
    | startup => exact (ha _ fun a => { a with startupClaim := none }).trans h0
    | trigger k => exact h0

@[simp] theorem arbitrate_pending : s.arbitrate.pending = s.pending :=
  arbitrate_same s (·.pending) (fun _ _ => rfl) fun _ _ _ => rfl
@[simp] theorem arbitrate_resetHeld : s.arbitrate.resetHeld = s.resetHeld :=
  arbitrate_same s (·.resetHeld) (fun _ _ => rfl) fun _ _ _ => rfl
@[simp] theorem arbitrate_wall : s.arbitrate.wall = s.wall :=
  arbitrate_same s (·.wall) (fun _ _ => rfl) fun _ _ _ => rfl
@[simp] theorem arbitrate_cues : s.arbitrate.cues = s.cues :=
  arbitrate_same s (·.cues) (fun _ _ => rfl) fun _ _ _ => rfl
@[simp] theorem arbitrate_layouts : s.arbitrate.layouts = s.layouts :=
  arbitrate_same s (·.layouts) (fun _ _ => rfl) fun _ _ _ => rfl
@[simp] theorem arbitrate_adverts : s.arbitrate.adverts = s.adverts :=
  arbitrate_same s (·.adverts) (fun _ _ => rfl) fun _ _ _ => rfl
@[simp] theorem arbitrate_plan : s.arbitrate.plan = s.plan :=
  arbitrate_same s (·.plan) (fun _ _ => rfl) fun _ _ _ => rfl
@[simp] theorem arbitrate_store : s.arbitrate.store = s.store :=
  arbitrate_same s (·.store) (fun _ _ => rfl) fun _ _ _ => rfl
@[simp] theorem arbitrate_tiles : s.arbitrate.tiles = s.tiles :=
  arbitrate_same s (·.tiles) (fun _ _ => rfl) fun _ _ _ => rfl
@[simp] theorem arbitrate_triggers : s.arbitrate.triggers = s.triggers :=
  arbitrate_same s (·.triggers) (fun _ _ => rfl) fun _ _ _ => rfl
@[simp] theorem arbitrate_lines : s.arbitrate.lines = s.lines :=
  arbitrate_same s (·.lines) (fun _ _ => rfl) fun _ _ _ => rfl
@[simp] theorem arbitrate_console : s.arbitrate.console = s.console :=
  arbitrate_same s (·.console) (fun _ _ => rfl) fun _ _ _ => rfl
@[simp] theorem arbitrate_startup : s.arbitrate.startup = s.startup :=
  arbitrate_same s (·.startup) (fun _ _ => rfl) fun _ _ _ => rfl
@[simp] theorem arbitrate_pins : s.arbitrate.pins = s.pins :=
  arbitrate_same s (·.pins) (fun _ _ => rfl) fun _ _ _ => rfl

theorem setProgress_port (p q : PortId) (x : Option InProgress) (t : State) :
    (t.setProgress p x).port q = if q = p then { t.port p with inProgress := x } else t.port q :=
  Both.get_set _ _ _ _

/-- A reader of a port that its request in progress does not reach is unchanged by `arbitrate`. -/
theorem arbitrate_port_same {τ : Type} (m : Port → τ) (h : ∀ q x, m { q with inProgress := x } = m q) (p : PortId) :
    m (s.arbitrate.port p) = m (s.port p) :=
  arbitrate_same s (fun s => m (s.port p)) (fun _ _ => rfl) fun t q x => by
    simp only [setProgress_port]
    split
    · next e => rw [h, e]
    · rfl

@[simp] theorem arbitrate_link (p : PortId) : (s.arbitrate.port p).link = (s.port p).link :=
  arbitrate_port_same s (·.link) (fun _ _ => rfl) p
@[simp] theorem arbitrate_cause (p : PortId) : (s.arbitrate.port p).cause = (s.port p).cause :=
  arbitrate_port_same s (·.cause) (fun _ _ => rfl) p
@[simp] theorem arbitrate_queue (p : PortId) : (s.arbitrate.port p).queue = (s.port p).queue :=
  arbitrate_port_same s (·.queue) (fun _ _ => rfl) p
@[simp] theorem arbitrate_notices (p : PortId) : (s.arbitrate.port p).notices = (s.port p).notices :=
  arbitrate_port_same s (·.notices) (fun _ _ => rfl) p
@[simp] theorem arbitrate_raises (p : PortId) : (s.arbitrate.port p).raises = (s.port p).raises :=
  arbitrate_port_same s (·.raises) (fun _ _ => rfl) p
@[simp] theorem arbitrate_mask (p : PortId) : (s.arbitrate.port p).mask = (s.port p).mask :=
  arbitrate_port_same s (·.mask) (fun _ _ => rfl) p
@[simp] theorem arbitrate_stray (p : PortId) : (s.arbitrate.port p).stray = (s.port p).stray :=
  arbitrate_port_same s (·.stray) (fun _ _ => rfl) p
@[simp] theorem arbitrate_outbox (p : PortId) : (s.arbitrate.port p).outbox = (s.port p).outbox :=
  arbitrate_port_same s (·.outbox) (fun _ _ => rfl) p
@[simp] theorem arbitrate_linkUp (p : PortId) : s.arbitrate.linkUp p = s.linkUp p := by simp [linkUp]

end Arbitrate

/-! ### Outputs -/

/-- The outputs depend on the wall state, the store, the lines, the wall error flag, the select code and phase, and each
port's link, notices and mask. -/
theorem outputs_congr {s t : State} (hw : t.wall.state = s.wall.state) (hf : t.store = s.store)
    (hl : t.lines = s.lines) (he : t.triggers.error.flag = s.triggers.error.flag)
    (hs : t.startup.select = s.startup.select) (hp : t.startup.phase = s.startup.phase)
    (hq : ∀ p, (t.port p).link = (s.port p).link ∧ (t.port p).notices = (s.port p).notices ∧
      (t.port p).mask = (s.port p).mask) : t.outputs = s.outputs := by
  have hu : ∀ p, t.linkUp p = s.linkUp p := fun p => by simp [linkUp, (hq p).1]
  have hr : t.readiness = s.readiness := by
    simp only [readiness]
    congr 1
    funext st
    unfold streamReady stream
    rw [hu, hf]
  have hd : t.lineDrive = s.lineDrive := by
    funext l
    simp only [lineDrive, line, hl, he]
  have hv : t.pinLevel = s.pinLevel := by
    funext l
    simp only [pinLevel, hd, line, hl]
  simp only [outputs, hr, hd, hv, noticeLine, hu, statusCode, hw, hs, hp, (hq _).2.1, (hq _).2.2]

@[simp] theorem arbitrate_outputs (s : State) : s.arbitrate.outputs = s.outputs :=
  outputs_congr (by simp) (by simp) (by simp) (by simp) (by simp) (by simp) (by simp)

@[simp] theorem modPins_outputs (f : Pins → Pins) (s : State) : (s.modPins f).outputs = s.outputs := rfl

theorem dueReadiness_eq (q : Port) :
    q.dueReadiness = q ∨ q.dueReadiness = { q with outbox := q.outbox ++ [.readinessDue] } := by
  unfold Port.dueReadiness
  split
  · exact .inl rfl
  · exact .inr rfl

/-- `tellReadiness` changes nothing, or appends one message that waits to its port's outbox. -/
theorem tellReadiness_cases (p : PortId) (s : State) :
    s.tellReadiness p = s ∨
    s.tellReadiness p = s.modPort p fun q => { q with outbox := q.outbox ++ [.readinessDue] } := by
  unfold tellReadiness
  split
  · rcases dueReadiness_eq (s.port p) with h | h
    · left
      show { s with ports := s.ports.set p (Port.dueReadiness (s.ports.get p)) } = s
      rw [show Port.dueReadiness (s.ports.get p) = s.ports.get p from h, Both.set_get]
    · right
      show ({ s with ports := s.ports.set p (Port.dueReadiness (s.ports.get p)) } : State) = _
      rw [show Port.dueReadiness (s.ports.get p) = _ from h]
      rfl
  · exact .inl rfl

/-- A reader that no outbox reaches is unchanged by `tellReadiness`. -/
theorem tellReadiness_same {τ : Type} (m : State → τ)
    (h : ∀ s p (f : Port → List PortMsg), m (modPort p (fun q => { q with outbox := f q }) s) = m s) (p : PortId)
    (s : State) : m (s.tellReadiness p) = m s := by
  rcases tellReadiness_cases p s with e | e
  · rw [e]
  · rw [e]
    exact h s p fun q => q.outbox ++ [.readinessDue]

theorem outbox_port (p q : PortId) (f : Port → List PortMsg) (s : State) :
    (s.modPort p fun x => { x with outbox := f x }).port q =
      if q = p then { s.port p with outbox := f (s.port p) } else s.port q := Both.get_set _ _ _ _

@[simp] theorem tellReadiness_outputs (p : PortId) (s : State) : (s.tellReadiness p).outputs = s.outputs :=
  tellReadiness_same outputs (fun s p f => outputs_congr rfl rfl rfl rfl rfl rfl fun q => by
    rw [outbox_port]
    split
    · next e => subst e; exact ⟨rfl, rfl, rfl⟩
    · exact ⟨rfl, rfl, rfl⟩) p s

theorem tellReadiness_progress (p q : PortId) (s : State) :
    ((s.tellReadiness p).port q).inProgress = (s.port q).inProgress :=
  tellReadiness_same (fun s => (s.port q).inProgress) (fun s p f => by
    simp only [outbox_port]
    split
    · next e => subst e; rfl
    · rfl) p s

theorem settlePins_claims (s : State) : SameClaims s s.settlePins where
  arbiter := (tellReadiness_same (·.arbiter) (fun _ _ _ => rfl) .b _).trans
    (tellReadiness_same (·.arbiter) (fun _ _ _ => rfl) .a s)
  posts := (tellReadiness_same (·.triggers.posts) (fun _ _ _ => rfl) .b _).trans
    (tellReadiness_same (·.triggers.posts) (fun _ _ _ => rfl) .a s)
  progress p := (tellReadiness_progress .b p _).trans (tellReadiness_progress .a p s)

/-- After `settlePins` every output is true. -/
theorem settlePins_settled (s : State) : s.settlePins.Settled := rfl

/-- Every command ends in a quiet state. -/
theorem settle_quiet (s : State) : s.settle.Quiet where
  outputs := settlePins_settled _
  granted := (settlePins_claims s.arbitrate).arbitrate_self (arbitrate_idem s)

theorem readinessMoved_false {s : State} (h : s.Settled) (p : PortId) : s.readinessMoved p = false := by
  have h' : ∀ st, s.pins.ready.get st = s.streamReady st := fun st => by
    rw [show s.pins = s.outputs from h]
    exact Table.get_ofFn _ _
  simp [readinessMoved, h']

theorem tellReadiness_quiet {s : State} (h : s.Settled) (p : PortId) : s.tellReadiness p = s := by
  simp [tellReadiness, readinessMoved_false h]

/-- A quiet state is settled already. -/
theorem Quiet.settle_eq {s : State} (h : s.Quiet) : s.settle = s := by
  show s.arbitrate.settlePins = s
  rw [h.granted]
  have e : (s.tellReadiness .a).tellReadiness .b = s := by
    rw [tellReadiness_quiet h.outputs, tellReadiness_quiet h.outputs]
  have f : s.settlePins = s.modPins fun _ => s.outputs := by
    unfold settlePins
    simp only [e]
  rw [f]
  exact congrArg (fun x => { s with pins := x }) (show s.outputs = s.pins from h.outputs.symm)

@[simp] theorem settle_settle (s : State) : s.settle.settle = s.settle := (settle_quiet s).settle_eq

/-! ### What `settle` leaves alone -/

/-- A reader that neither the arbiter, a grant mark, an outbox nor the pins reach is unchanged by `settle`. -/
theorem settle_same {τ : Type} (m : State → τ) (ha : ∀ s f, m (modArbiter f s) = m s)
    (hp : ∀ s p x, m (setProgress p x s) = m s)
    (ho : ∀ s p (f : Port → List PortMsg), m (modPort p (fun q => { q with outbox := f q }) s) = m s)
    (hx : ∀ s f, m (modPins f s) = m s) (s : State) : m s.settle = m s :=
  (hx ((s.arbitrate.tellReadiness .a).tellReadiness .b)
    fun _ => ((s.arbitrate.tellReadiness .a).tellReadiness .b).outputs).trans <|
  (tellReadiness_same m ho .b _).trans <| (tellReadiness_same m ho .a _).trans <|
    arbitrate_same s m ha hp

section Settle

variable (s : State)

@[simp] theorem settle_pending : s.settle.pending = s.pending :=
  settle_same (·.pending) (fun _ _ => rfl) (fun _ _ _ => rfl) (fun _ _ _ => rfl) (fun _ _ => rfl) s
@[simp] theorem settle_resetHeld : s.settle.resetHeld = s.resetHeld :=
  settle_same (·.resetHeld) (fun _ _ => rfl) (fun _ _ _ => rfl) (fun _ _ _ => rfl) (fun _ _ => rfl) s
@[simp] theorem settle_wall : s.settle.wall = s.wall :=
  settle_same (·.wall) (fun _ _ => rfl) (fun _ _ _ => rfl) (fun _ _ _ => rfl) (fun _ _ => rfl) s
@[simp] theorem settle_cues : s.settle.cues = s.cues :=
  settle_same (·.cues) (fun _ _ => rfl) (fun _ _ _ => rfl) (fun _ _ _ => rfl) (fun _ _ => rfl) s
@[simp] theorem settle_layouts : s.settle.layouts = s.layouts :=
  settle_same (·.layouts) (fun _ _ => rfl) (fun _ _ _ => rfl) (fun _ _ _ => rfl) (fun _ _ => rfl) s
@[simp] theorem settle_adverts : s.settle.adverts = s.adverts :=
  settle_same (·.adverts) (fun _ _ => rfl) (fun _ _ _ => rfl) (fun _ _ _ => rfl) (fun _ _ => rfl) s
@[simp] theorem settle_plan : s.settle.plan = s.plan :=
  settle_same (·.plan) (fun _ _ => rfl) (fun _ _ _ => rfl) (fun _ _ _ => rfl) (fun _ _ => rfl) s
@[simp] theorem settle_store : s.settle.store = s.store :=
  settle_same (·.store) (fun _ _ => rfl) (fun _ _ _ => rfl) (fun _ _ _ => rfl) (fun _ _ => rfl) s
@[simp] theorem settle_tiles : s.settle.tiles = s.tiles :=
  settle_same (·.tiles) (fun _ _ => rfl) (fun _ _ _ => rfl) (fun _ _ _ => rfl) (fun _ _ => rfl) s
@[simp] theorem settle_triggers : s.settle.triggers = s.triggers :=
  settle_same (·.triggers) (fun _ _ => rfl) (fun _ _ _ => rfl) (fun _ _ _ => rfl) (fun _ _ => rfl) s
@[simp] theorem settle_lines : s.settle.lines = s.lines :=
  settle_same (·.lines) (fun _ _ => rfl) (fun _ _ _ => rfl) (fun _ _ _ => rfl) (fun _ _ => rfl) s
@[simp] theorem settle_console : s.settle.console = s.console :=
  settle_same (·.console) (fun _ _ => rfl) (fun _ _ _ => rfl) (fun _ _ _ => rfl) (fun _ _ => rfl) s
@[simp] theorem settle_startup : s.settle.startup = s.startup :=
  settle_same (·.startup) (fun _ _ => rfl) (fun _ _ _ => rfl) (fun _ _ _ => rfl) (fun _ _ => rfl) s

/-- The pins of a settled state are its outputs. -/
theorem settle_pins : s.settle.pins = s.settle.outputs := (settle_quiet s).outputs

@[simp] theorem settle_outputs : s.settle.outputs = s.outputs := by
  show (((s.arbitrate.tellReadiness .a).tellReadiness .b).modPins _).outputs = s.outputs
  rw [modPins_outputs, tellReadiness_outputs, tellReadiness_outputs, arbitrate_outputs]

/-- A reader of a port that neither its request in progress nor its outbox reaches is unchanged by `settle`. -/
theorem settle_port_same {τ : Type} (m : Port → τ) (hp : ∀ q x, m { q with inProgress := x } = m q)
    (ho : ∀ q x, m { q with outbox := x } = m q) (p : PortId) : m (s.settle.port p) = m (s.port p) :=
  settle_same (fun s => m (s.port p)) (fun _ _ => rfl)
    (fun t q x => by
      simp only [setProgress_port]
      split
      · next e => rw [hp, e]
      · rfl)
    (fun t q f => by
      simp only [outbox_port]
      split
      · next e => rw [ho, e]
      · rfl)
    (fun _ _ => rfl) s

@[simp] theorem settle_link (p : PortId) : (s.settle.port p).link = (s.port p).link :=
  settle_port_same s (·.link) (fun _ _ => rfl) (fun _ _ => rfl) p
@[simp] theorem settle_cause (p : PortId) : (s.settle.port p).cause = (s.port p).cause :=
  settle_port_same s (·.cause) (fun _ _ => rfl) (fun _ _ => rfl) p
@[simp] theorem settle_queue (p : PortId) : (s.settle.port p).queue = (s.port p).queue :=
  settle_port_same s (·.queue) (fun _ _ => rfl) (fun _ _ => rfl) p
@[simp] theorem settle_notices (p : PortId) : (s.settle.port p).notices = (s.port p).notices :=
  settle_port_same s (·.notices) (fun _ _ => rfl) (fun _ _ => rfl) p
@[simp] theorem settle_raises (p : PortId) : (s.settle.port p).raises = (s.port p).raises :=
  settle_port_same s (·.raises) (fun _ _ => rfl) (fun _ _ => rfl) p
@[simp] theorem settle_mask (p : PortId) : (s.settle.port p).mask = (s.port p).mask :=
  settle_port_same s (·.mask) (fun _ _ => rfl) (fun _ _ => rfl) p
@[simp] theorem settle_stray (p : PortId) : (s.settle.port p).stray = (s.port p).stray :=
  settle_port_same s (·.stray) (fun _ _ => rfl) (fun _ _ => rfl) p
@[simp] theorem settle_linkUp (p : PortId) : s.settle.linkUp p = s.linkUp p := by simp [linkUp]

/-! ### The records a settled state keeps -/

@[simp] theorem settle_tile (j : TileId) : s.settle.tile j = s.tile j := by simp [tile]
@[simp] theorem settle_live (j : TileId) : s.settle.live j = s.live j := by simp [live]
@[simp] theorem settle_trigger (k : TriggerId) : s.settle.trigger k = s.trigger k := by simp [trigger]
@[simp] theorem settle_line (l : LineId) : s.settle.line l = s.line l := by simp [line]
@[simp] theorem settle_stream (st : StreamId) : s.settle.stream st = s.stream st := by simp [stream]
@[simp] theorem settle_buffer (b : BufId) : s.settle.buffer b = s.buffer b := by simp [buffer]
@[simp] theorem settle_group (g : GroupId) : s.settle.group g = s.group g := by simp [group]
@[simp] theorem settle_period : s.settle.period = s.period := by simp [period]

/-- The arbiter grants nothing while an operation is in progress (R23). -/
theorem arbitrate_granted {s : State} (h : s.arbiter.granted.isSome = true) : s.arbitrate = s :=
  (arbitrate_eq_self_iff s).2 (.inl h)

theorem settle_arbiter_granted {s : State} (h : s.arbiter.granted.isSome = true) : s.settle.arbiter = s.arbiter := by
  rw [settle, (settlePins_claims _).arbiter, arbitrate_granted h]

theorem settle_progress_granted {s : State} (h : s.arbiter.granted.isSome = true) (p : PortId) :
    (s.settle.port p).inProgress = (s.port p).inProgress := by
  rw [settle, (settlePins_claims _).progress, arbitrate_granted h]

/-- A port with no request in progress has none after settling: the arbiter marks a claim granted, it makes none. -/
theorem settle_idle {s : State} {p : PortId} (h : (s.port p).inProgress = none) :
    (s.settle.port p).inProgress = none := by
  rw [settle, (settlePins_claims _).progress]
  rcases arbitrate_cases s with ⟨he, _⟩ | ⟨r, a, c, op, _, _, _, he⟩
  · rw [he, h]
  · rw [he]
    cases c with
    | port q =>
      cases p <;> cases q <;> simpa [takeClaim, modPort, modPorts, port, Both.get, Both.set] using h
    | typed => exact h
    | startup => exact h
    | trigger k => exact h

end Settle

end Sys2Proof.Machine.State
end

