-- ==== Sys2Proof/Laws/Requests.lean ====
section
/-! SUPPORT. What the arrival of a request does, by the state of its port (R159, R161). -/

namespace Sys2Proof.Machine.State

@[simp] theorem ofCode_code (k : ReqKind) : ReqKind.ofCode k.code = some k := by cases k <;> decide

/-- A port's record taken out and put back is the same state. -/
theorem modPort_eq_self {s : State} {p : PortId} {f : Port → Port} (h : f (s.port p) = s.port p) : s.modPort p f = s := by
  show { s with ports := s.ports.set p (f (s.ports.get p)) } = s
  rw [show f (s.ports.get p) = s.ports.get p from h, Both.set_get]

theorem modPort_modPort (s : State) (p : PortId) (f g : Port → Port) :
    (s.modPort p f).modPort p g = s.modPort p fun q => g (f q) := by
  show { s with ports := (s.ports.set p (f (s.ports.get p))).set p (g ((s.ports.set p (f (s.ports.get p))).get p)) } = _
  rw [Both.get_set_self, Both.set_set]
  rfl

/-- A port that is ready for a request can receive one (R170). -/
theorem receives_of_ready {s : State} {p : PortId} (h : s.ReadyFor p) : s.receives p = true := by
  simp [receives, h.up, h.clear]

/-- Where no message can be received, the arrival of one changes nothing (R170). -/
theorem arrive_of_not_receives {s : State} {p : PortId} (h : s.receives p = false) (code : Byte) (tag : Tag)
    (body : List Byte) : s.arrive p code tag body = s := by
  simp [arrive, h]

/-- A request that arrives at a port with nothing waiting and nothing in progress is taken at once (R159). -/
theorem arrive_ready {s : State} {p : PortId} (h : s.ReadyFor p) (k : ReqKind) (tag : Tag) {body : List Byte}
    (hb : Fits body) :
    s.arrive p k.code tag body = (s.takeRequest p { kind := k, tag := tag, body := body }).settle := by
  let r : Request := { kind := k, tag := tag, body := body }
  have h1 : (s.modPort p fun q => { q with queue := q.queue ++ [r] }).port p = { s.port p with queue := [r] } := by
    simp [h.empty]
  have h2 : ((s.modPort p fun q => { q with queue := q.queue ++ [r] }).modPort p fun q => { q with queue := [] }) = s := by
    rw [modPort_modPort]
    apply modPort_eq_self
    have := h.empty
    revert this
    cases s.port p
    intro this
    simp at this
    simp [this]
  have hb' : ¬ 4096 < body.length := by have := hb; unfold Fits at this; omega
  unfold arrive
  simp only [receives_of_ready h, Bool.not_true, Bool.false_eq_true, if_false, ofCode_code, hb', h.empty, List.length_nil,
    show ¬ 4 ≤ 0 by decide]
  show (s.modPort p fun q => { q with queue := q.queue ++ [r] }).drainPort p = _
  unfold drainPort
  simp only [h1, List.length_singleton, serve, serveOne, portIdle, h.idle, Option.isNone_none, if_true, h2]
  rfl

/-- A command that is a request's arrival, at a port that is ready for it. -/
theorem change_arrive_ready {s : State} {p : PortId} (h : s.ReadyFor p) (k : ReqKind) (tag : Tag) {body : List Byte}
    (hb : Fits body) :
    change (arrive p k.code tag body) s =
      .next (s.takeRequest p { kind := k, tag := tag, body := body }).settle := by
  unfold change
  rw [if_neg (by simp [h.released]), arrive_ready h k tag hb, settle_settle]

/-- A request whose kind is decided when it is taken. -/
theorem takeRequest_decided (s : State) (p : PortId) (r : Request) (h1 : r.kind ≠ .postCue) (h2 : r.kind ≠ .cancelCue)
    (h3 : r.kind ≠ .programStore) :
    s.takeRequest p r =
      ((s.renewHold p).decideRequest r.kind p r.body).1.answer p r ((s.renewHold p).decideRequest r.kind p r.body).2 := by
  obtain ⟨k, tag, body⟩ := r
  cases k <;> first | rfl | exact absurd rfl h1 | exact absurd rfl h2 | exact absurd rfl h3

end Sys2Proof.Machine.State
end

