-- ==== Sys2Proof/Laws/Triggers.lean ====
section
/-! SUPPORT. What raising notices, firing triggers and setting the wall error leave alone: all of them reach the Trigger
Unit, the Line Block and the ports' notices, and nothing else (R145, R153, R164). -/

namespace Sys2Proof.Machine.State

/-! ### Notices -/

/-- A reader that no entered notice reaches is unchanged by a raise. -/
theorem raise_same {τ : Type} (m : State → τ) (h : ∀ s p k, m (modPort p (Port.enter k) s) = m s) (p : PortId)
    (k : Notice) (s : State) : m (s.raise p k) = m s := by
  unfold raise
  split
  · exact h s p k
  · rfl

theorem raiseBoth_same {τ : Type} (m : State → τ) (h : ∀ s p k, m (modPort p (Port.enter k) s) = m s) (k : Notice)
    (s : State) : m (s.raiseBoth k) = m s := (raise_same m h .b k _).trans (raise_same m h .a k s)

theorem enter_port (p q : PortId) (k : Notice) (s : State) :
    (s.modPort p (Port.enter k)).port q = if q = p then (s.port p).enter k else s.port q := Both.get_set _ _ _ _

/-! ### Firing -/

section Firing

variable {τ : Type} (m : State → τ) (ht : ∀ s f, m (modTriggers f s) = m s) (hl : ∀ s f, m (modLines f s) = m s)
  (hp : ∀ s p k, m (modPort p (Port.enter k) s) = m s)

include ht in
theorem retakeLast_same (k : TriggerId) (s : State) : m (s.retakeLast k) = m s := by
  unfold retakeLast modTrigger
  exact ht s _

include ht in
theorem changeMark_same (c : MarkChange) (k : TriggerId) (s : State) : m (s.changeMark c k) = m s := by
  unfold changeMark
  dsimp only
  split
  · exact (retakeLast_same m ht k _).trans (ht s _)
  · rfl

include ht in
theorem firingMarks_same (part : Option MarksPart) (s : State) : m (s.firingMarks part) = m s := by
  unfold firingMarks
  split
  · rfl
  · refine forEach_same m (fun k s => ?_) s
    split
    · exact changeMark_same m ht _ k s
    · rfl

include ht in
theorem firingTimers_same (k : TriggerId) (part : Option (TimerAct × TimerAct)) (s : State) :
    m (s.firingTimers k part) = m s := by
  unfold firingTimers
  split
  · rfl
  · exact ht s _

include hl in
theorem firingLines_same (part : Option LinesPart) (s : State) : m (s.firingLines part) = m s := by
  unfold firingLines
  split
  · rfl
  · exact hl s _

include ht in
theorem firingPost_same (k : TriggerId) (part : Option PostPart) (s : State) : m (s.firingPost k part) = m s := by
  unfold firingPost
  split
  · rfl
  · split
    · exact ht s _
    · exact (ht _ _).trans (ht s _)

include hp in
theorem notifyTrigger_same (k : TriggerId) (n : Notice) (s : State) : m (s.notifyTrigger k n) = m s := by
  have one : ∀ (b : Bool) (p : PortId) (s : State), m (if b then s.raise p n else s) = m s := by
    intro b p s
    split
    · exact raise_same m hp p n s
    · rfl
  exact (one _ .b _).trans (one _ .a s)

include ht hl hp in
/-- A reader that neither the Trigger Unit, the Line Block nor an entered notice reaches is unchanged by a firing. -/
theorem fireSteps_same (k : TriggerId) (src : FireSource) (s : State) : m (s.fireSteps k src) = m s :=
  (notifyTrigger_same m hp k .trigger _).trans <| (firingPost_same m ht k _ _).trans <|
    (firingLines_same m hl _ _).trans <| (firingTimers_same m ht k _ _).trans <|
    (firingMarks_same m ht _ _).trans (ht s _)

include ht hl hp in
theorem fire_same (k : TriggerId) (src : FireSource) (s : State) : m (s.fire k src) = m s := by
  refine Eq.trans ?_ (fireSteps_same m ht hl hp k src s)
  show m ((s.fireSteps k src).fireChain k _) = _
  unfold fireChain
  split
  · rfl
  · refine forEach_same m (fun i s => ?_) _
    split
    · exact fireSteps_same m ht hl hp i _ s
    · rfl

include ht hl hp in
theorem fireMask_same (mask : BitVec 8) (src : FireSource) (s : State) : m (s.fireMask mask src) = m s := by
  refine forEach_same m (fun k s => ?_) s
  split
  · exact fire_same m ht hl hp k src s
  · rfl

include ht hl hp in
/-- A reader that neither the Trigger Unit, the Line Block nor an entered notice reaches is unchanged by an event. -/
theorem react_same (e : Stimulus) (s : State) : m (s.react e) = m s := by
  refine forEach_same m (fun k s => ?_) s
  unfold reactOne
  dsimp only
  split
  · split
    · exact (fire_same m ht hl hp k _ _).trans (ht s _)
    · exact ht s _
  · split
    · exact fire_same m ht hl hp k _ s
    · rfl

include ht in
theorem setError_same (c : ErrorCause) (s : State) : m (s.setError c) = m s := by
  unfold setError disableAll
  dsimp only
  split
  · exact (ht _ _).trans (ht s _)
  · exact ht s _

include ht hl hp in
theorem announceWall_same (sender : Option PortId) (s : State) : m (s.announceWall sender) = m s := by
  have one : ∀ (c : Prop) [Decidable c] (p : PortId) (s : State), m (if c then s else s.raise p .wall) = m s := by
    intro c _ p s
    split
    · rfl
    · exact raise_same m hp p .wall s
  refine (react_same m ht hl hp _ _).trans ?_
  exact (one _ .b _).trans (one _ .a s)

end Firing

/-! ### The blocks they leave alone -/

@[simp] theorem raise_pending (p : PortId) (k : Notice) (s : State) : (s.raise p k).pending = s.pending :=
  raise_same (·.pending) (fun _ _ _ => rfl) p k s
@[simp] theorem raise_resetHeld (p : PortId) (k : Notice) (s : State) : (s.raise p k).resetHeld = s.resetHeld :=
  raise_same (·.resetHeld) (fun _ _ _ => rfl) p k s
@[simp] theorem raise_wall (p : PortId) (k : Notice) (s : State) : (s.raise p k).wall = s.wall :=
  raise_same (·.wall) (fun _ _ _ => rfl) p k s
@[simp] theorem raise_cues (p : PortId) (k : Notice) (s : State) : (s.raise p k).cues = s.cues :=
  raise_same (·.cues) (fun _ _ _ => rfl) p k s
@[simp] theorem raise_arbiter (p : PortId) (k : Notice) (s : State) : (s.raise p k).arbiter = s.arbiter :=
  raise_same (·.arbiter) (fun _ _ _ => rfl) p k s
@[simp] theorem raise_layouts (p : PortId) (k : Notice) (s : State) : (s.raise p k).layouts = s.layouts :=
  raise_same (·.layouts) (fun _ _ _ => rfl) p k s
@[simp] theorem raise_adverts (p : PortId) (k : Notice) (s : State) : (s.raise p k).adverts = s.adverts :=
  raise_same (·.adverts) (fun _ _ _ => rfl) p k s
@[simp] theorem raise_plan (p : PortId) (k : Notice) (s : State) : (s.raise p k).plan = s.plan :=
  raise_same (·.plan) (fun _ _ _ => rfl) p k s
@[simp] theorem raise_store (p : PortId) (k : Notice) (s : State) : (s.raise p k).store = s.store :=
  raise_same (·.store) (fun _ _ _ => rfl) p k s
@[simp] theorem raise_tiles (p : PortId) (k : Notice) (s : State) : (s.raise p k).tiles = s.tiles :=
  raise_same (·.tiles) (fun _ _ _ => rfl) p k s
@[simp] theorem raise_console (p : PortId) (k : Notice) (s : State) : (s.raise p k).console = s.console :=
  raise_same (·.console) (fun _ _ _ => rfl) p k s
@[simp] theorem raise_startup (p : PortId) (k : Notice) (s : State) : (s.raise p k).startup = s.startup :=
  raise_same (·.startup) (fun _ _ _ => rfl) p k s
@[simp] theorem raise_pins (p : PortId) (k : Notice) (s : State) : (s.raise p k).pins = s.pins :=
  raise_same (·.pins) (fun _ _ _ => rfl) p k s
@[simp] theorem raise_triggers (p : PortId) (k : Notice) (s : State) : (s.raise p k).triggers = s.triggers :=
  raise_same (·.triggers) (fun _ _ _ => rfl) p k s
@[simp] theorem raise_lines (p : PortId) (k : Notice) (s : State) : (s.raise p k).lines = s.lines :=
  raise_same (·.lines) (fun _ _ _ => rfl) p k s

@[simp] theorem raiseBoth_pending (k : Notice) (s : State) : (s.raiseBoth k).pending = s.pending :=
  raiseBoth_same (·.pending) (fun _ _ _ => rfl) k s
@[simp] theorem raiseBoth_resetHeld (k : Notice) (s : State) : (s.raiseBoth k).resetHeld = s.resetHeld :=
  raiseBoth_same (·.resetHeld) (fun _ _ _ => rfl) k s
@[simp] theorem raiseBoth_wall (k : Notice) (s : State) : (s.raiseBoth k).wall = s.wall :=
  raiseBoth_same (·.wall) (fun _ _ _ => rfl) k s
@[simp] theorem raiseBoth_cues (k : Notice) (s : State) : (s.raiseBoth k).cues = s.cues :=
  raiseBoth_same (·.cues) (fun _ _ _ => rfl) k s
@[simp] theorem raiseBoth_arbiter (k : Notice) (s : State) : (s.raiseBoth k).arbiter = s.arbiter :=
  raiseBoth_same (·.arbiter) (fun _ _ _ => rfl) k s
@[simp] theorem raiseBoth_layouts (k : Notice) (s : State) : (s.raiseBoth k).layouts = s.layouts :=
  raiseBoth_same (·.layouts) (fun _ _ _ => rfl) k s
@[simp] theorem raiseBoth_adverts (k : Notice) (s : State) : (s.raiseBoth k).adverts = s.adverts :=
  raiseBoth_same (·.adverts) (fun _ _ _ => rfl) k s
@[simp] theorem raiseBoth_plan (k : Notice) (s : State) : (s.raiseBoth k).plan = s.plan :=
  raiseBoth_same (·.plan) (fun _ _ _ => rfl) k s
@[simp] theorem raiseBoth_store (k : Notice) (s : State) : (s.raiseBoth k).store = s.store :=
  raiseBoth_same (·.store) (fun _ _ _ => rfl) k s
@[simp] theorem raiseBoth_tiles (k : Notice) (s : State) : (s.raiseBoth k).tiles = s.tiles :=
  raiseBoth_same (·.tiles) (fun _ _ _ => rfl) k s
@[simp] theorem raiseBoth_console (k : Notice) (s : State) : (s.raiseBoth k).console = s.console :=
  raiseBoth_same (·.console) (fun _ _ _ => rfl) k s
@[simp] theorem raiseBoth_startup (k : Notice) (s : State) : (s.raiseBoth k).startup = s.startup :=
  raiseBoth_same (·.startup) (fun _ _ _ => rfl) k s
@[simp] theorem raiseBoth_pins (k : Notice) (s : State) : (s.raiseBoth k).pins = s.pins :=
  raiseBoth_same (·.pins) (fun _ _ _ => rfl) k s
@[simp] theorem raiseBoth_triggers (k : Notice) (s : State) : (s.raiseBoth k).triggers = s.triggers :=
  raiseBoth_same (·.triggers) (fun _ _ _ => rfl) k s
@[simp] theorem raiseBoth_lines (k : Notice) (s : State) : (s.raiseBoth k).lines = s.lines :=
  raiseBoth_same (·.lines) (fun _ _ _ => rfl) k s

@[simp] theorem fire_pending (k : TriggerId) (src : FireSource) (s : State) : (s.fire k src).pending = s.pending :=
  fire_same (·.pending) (fun _ _ => rfl) (fun _ _ => rfl) (fun _ _ _ => rfl) k src s
@[simp] theorem fire_resetHeld (k : TriggerId) (src : FireSource) (s : State) : (s.fire k src).resetHeld = s.resetHeld :=
  fire_same (·.resetHeld) (fun _ _ => rfl) (fun _ _ => rfl) (fun _ _ _ => rfl) k src s
@[simp] theorem fire_wall (k : TriggerId) (src : FireSource) (s : State) : (s.fire k src).wall = s.wall :=
  fire_same (·.wall) (fun _ _ => rfl) (fun _ _ => rfl) (fun _ _ _ => rfl) k src s
@[simp] theorem fire_cues (k : TriggerId) (src : FireSource) (s : State) : (s.fire k src).cues = s.cues :=
  fire_same (·.cues) (fun _ _ => rfl) (fun _ _ => rfl) (fun _ _ _ => rfl) k src s
@[simp] theorem fire_arbiter (k : TriggerId) (src : FireSource) (s : State) : (s.fire k src).arbiter = s.arbiter :=
  fire_same (·.arbiter) (fun _ _ => rfl) (fun _ _ => rfl) (fun _ _ _ => rfl) k src s
@[simp] theorem fire_layouts (k : TriggerId) (src : FireSource) (s : State) : (s.fire k src).layouts = s.layouts :=
  fire_same (·.layouts) (fun _ _ => rfl) (fun _ _ => rfl) (fun _ _ _ => rfl) k src s
@[simp] theorem fire_adverts (k : TriggerId) (src : FireSource) (s : State) : (s.fire k src).adverts = s.adverts :=
  fire_same (·.adverts) (fun _ _ => rfl) (fun _ _ => rfl) (fun _ _ _ => rfl) k src s
@[simp] theorem fire_plan (k : TriggerId) (src : FireSource) (s : State) : (s.fire k src).plan = s.plan :=
  fire_same (·.plan) (fun _ _ => rfl) (fun _ _ => rfl) (fun _ _ _ => rfl) k src s
@[simp] theorem fire_store (k : TriggerId) (src : FireSource) (s : State) : (s.fire k src).store = s.store :=
  fire_same (·.store) (fun _ _ => rfl) (fun _ _ => rfl) (fun _ _ _ => rfl) k src s
@[simp] theorem fire_tiles (k : TriggerId) (src : FireSource) (s : State) : (s.fire k src).tiles = s.tiles :=
  fire_same (·.tiles) (fun _ _ => rfl) (fun _ _ => rfl) (fun _ _ _ => rfl) k src s
@[simp] theorem fire_console (k : TriggerId) (src : FireSource) (s : State) : (s.fire k src).console = s.console :=
  fire_same (·.console) (fun _ _ => rfl) (fun _ _ => rfl) (fun _ _ _ => rfl) k src s
@[simp] theorem fire_startup (k : TriggerId) (src : FireSource) (s : State) : (s.fire k src).startup = s.startup :=
  fire_same (·.startup) (fun _ _ => rfl) (fun _ _ => rfl) (fun _ _ _ => rfl) k src s
@[simp] theorem fire_pins (k : TriggerId) (src : FireSource) (s : State) : (s.fire k src).pins = s.pins :=
  fire_same (·.pins) (fun _ _ => rfl) (fun _ _ => rfl) (fun _ _ _ => rfl) k src s

@[simp] theorem fireMask_pending (mask : BitVec 8) (src : FireSource) (s : State) : (s.fireMask mask src).pending = s.pending :=
  fireMask_same (·.pending) (fun _ _ => rfl) (fun _ _ => rfl) (fun _ _ _ => rfl) mask src s
@[simp] theorem fireMask_resetHeld (mask : BitVec 8) (src : FireSource) (s : State) : (s.fireMask mask src).resetHeld = s.resetHeld :=
  fireMask_same (·.resetHeld) (fun _ _ => rfl) (fun _ _ => rfl) (fun _ _ _ => rfl) mask src s
@[simp] theorem fireMask_wall (mask : BitVec 8) (src : FireSource) (s : State) : (s.fireMask mask src).wall = s.wall :=
  fireMask_same (·.wall) (fun _ _ => rfl) (fun _ _ => rfl) (fun _ _ _ => rfl) mask src s
@[simp] theorem fireMask_cues (mask : BitVec 8) (src : FireSource) (s : State) : (s.fireMask mask src).cues = s.cues :=
  fireMask_same (·.cues) (fun _ _ => rfl) (fun _ _ => rfl) (fun _ _ _ => rfl) mask src s
@[simp] theorem fireMask_arbiter (mask : BitVec 8) (src : FireSource) (s : State) : (s.fireMask mask src).arbiter = s.arbiter :=
  fireMask_same (·.arbiter) (fun _ _ => rfl) (fun _ _ => rfl) (fun _ _ _ => rfl) mask src s
@[simp] theorem fireMask_layouts (mask : BitVec 8) (src : FireSource) (s : State) : (s.fireMask mask src).layouts = s.layouts :=
  fireMask_same (·.layouts) (fun _ _ => rfl) (fun _ _ => rfl) (fun _ _ _ => rfl) mask src s
@[simp] theorem fireMask_adverts (mask : BitVec 8) (src : FireSource) (s : State) : (s.fireMask mask src).adverts = s.adverts :=
  fireMask_same (·.adverts) (fun _ _ => rfl) (fun _ _ => rfl) (fun _ _ _ => rfl) mask src s
@[simp] theorem fireMask_plan (mask : BitVec 8) (src : FireSource) (s : State) : (s.fireMask mask src).plan = s.plan :=
  fireMask_same (·.plan) (fun _ _ => rfl) (fun _ _ => rfl) (fun _ _ _ => rfl) mask src s
@[simp] theorem fireMask_store (mask : BitVec 8) (src : FireSource) (s : State) : (s.fireMask mask src).store = s.store :=
  fireMask_same (·.store) (fun _ _ => rfl) (fun _ _ => rfl) (fun _ _ _ => rfl) mask src s
@[simp] theorem fireMask_tiles (mask : BitVec 8) (src : FireSource) (s : State) : (s.fireMask mask src).tiles = s.tiles :=
  fireMask_same (·.tiles) (fun _ _ => rfl) (fun _ _ => rfl) (fun _ _ _ => rfl) mask src s
@[simp] theorem fireMask_console (mask : BitVec 8) (src : FireSource) (s : State) : (s.fireMask mask src).console = s.console :=
  fireMask_same (·.console) (fun _ _ => rfl) (fun _ _ => rfl) (fun _ _ _ => rfl) mask src s
@[simp] theorem fireMask_startup (mask : BitVec 8) (src : FireSource) (s : State) : (s.fireMask mask src).startup = s.startup :=
  fireMask_same (·.startup) (fun _ _ => rfl) (fun _ _ => rfl) (fun _ _ _ => rfl) mask src s
@[simp] theorem fireMask_pins (mask : BitVec 8) (src : FireSource) (s : State) : (s.fireMask mask src).pins = s.pins :=
  fireMask_same (·.pins) (fun _ _ => rfl) (fun _ _ => rfl) (fun _ _ _ => rfl) mask src s

@[simp] theorem react_pending (e : Stimulus) (s : State) : (s.react e).pending = s.pending :=
  react_same (·.pending) (fun _ _ => rfl) (fun _ _ => rfl) (fun _ _ _ => rfl) e s
@[simp] theorem react_resetHeld (e : Stimulus) (s : State) : (s.react e).resetHeld = s.resetHeld :=
  react_same (·.resetHeld) (fun _ _ => rfl) (fun _ _ => rfl) (fun _ _ _ => rfl) e s
@[simp] theorem react_wall (e : Stimulus) (s : State) : (s.react e).wall = s.wall :=
  react_same (·.wall) (fun _ _ => rfl) (fun _ _ => rfl) (fun _ _ _ => rfl) e s
@[simp] theorem react_cues (e : Stimulus) (s : State) : (s.react e).cues = s.cues :=
  react_same (·.cues) (fun _ _ => rfl) (fun _ _ => rfl) (fun _ _ _ => rfl) e s
@[simp] theorem react_arbiter (e : Stimulus) (s : State) : (s.react e).arbiter = s.arbiter :=
  react_same (·.arbiter) (fun _ _ => rfl) (fun _ _ => rfl) (fun _ _ _ => rfl) e s
@[simp] theorem react_layouts (e : Stimulus) (s : State) : (s.react e).layouts = s.layouts :=
  react_same (·.layouts) (fun _ _ => rfl) (fun _ _ => rfl) (fun _ _ _ => rfl) e s
@[simp] theorem react_adverts (e : Stimulus) (s : State) : (s.react e).adverts = s.adverts :=
  react_same (·.adverts) (fun _ _ => rfl) (fun _ _ => rfl) (fun _ _ _ => rfl) e s
@[simp] theorem react_plan (e : Stimulus) (s : State) : (s.react e).plan = s.plan :=
  react_same (·.plan) (fun _ _ => rfl) (fun _ _ => rfl) (fun _ _ _ => rfl) e s
@[simp] theorem react_store (e : Stimulus) (s : State) : (s.react e).store = s.store :=
  react_same (·.store) (fun _ _ => rfl) (fun _ _ => rfl) (fun _ _ _ => rfl) e s
@[simp] theorem react_tiles (e : Stimulus) (s : State) : (s.react e).tiles = s.tiles :=
  react_same (·.tiles) (fun _ _ => rfl) (fun _ _ => rfl) (fun _ _ _ => rfl) e s
@[simp] theorem react_console (e : Stimulus) (s : State) : (s.react e).console = s.console :=
  react_same (·.console) (fun _ _ => rfl) (fun _ _ => rfl) (fun _ _ _ => rfl) e s
@[simp] theorem react_startup (e : Stimulus) (s : State) : (s.react e).startup = s.startup :=
  react_same (·.startup) (fun _ _ => rfl) (fun _ _ => rfl) (fun _ _ _ => rfl) e s
@[simp] theorem react_pins (e : Stimulus) (s : State) : (s.react e).pins = s.pins :=
  react_same (·.pins) (fun _ _ => rfl) (fun _ _ => rfl) (fun _ _ _ => rfl) e s

@[simp] theorem setError_pending (c : ErrorCause) (s : State) : (s.setError c).pending = s.pending :=
  setError_same (·.pending) (fun _ _ => rfl) c s
@[simp] theorem setError_resetHeld (c : ErrorCause) (s : State) : (s.setError c).resetHeld = s.resetHeld :=
  setError_same (·.resetHeld) (fun _ _ => rfl) c s
@[simp] theorem setError_wall (c : ErrorCause) (s : State) : (s.setError c).wall = s.wall :=
  setError_same (·.wall) (fun _ _ => rfl) c s
@[simp] theorem setError_cues (c : ErrorCause) (s : State) : (s.setError c).cues = s.cues :=
  setError_same (·.cues) (fun _ _ => rfl) c s
@[simp] theorem setError_arbiter (c : ErrorCause) (s : State) : (s.setError c).arbiter = s.arbiter :=
  setError_same (·.arbiter) (fun _ _ => rfl) c s
@[simp] theorem setError_layouts (c : ErrorCause) (s : State) : (s.setError c).layouts = s.layouts :=
  setError_same (·.layouts) (fun _ _ => rfl) c s
@[simp] theorem setError_adverts (c : ErrorCause) (s : State) : (s.setError c).adverts = s.adverts :=
  setError_same (·.adverts) (fun _ _ => rfl) c s
@[simp] theorem setError_plan (c : ErrorCause) (s : State) : (s.setError c).plan = s.plan :=
  setError_same (·.plan) (fun _ _ => rfl) c s
@[simp] theorem setError_store (c : ErrorCause) (s : State) : (s.setError c).store = s.store :=
  setError_same (·.store) (fun _ _ => rfl) c s
@[simp] theorem setError_tiles (c : ErrorCause) (s : State) : (s.setError c).tiles = s.tiles :=
  setError_same (·.tiles) (fun _ _ => rfl) c s
@[simp] theorem setError_console (c : ErrorCause) (s : State) : (s.setError c).console = s.console :=
  setError_same (·.console) (fun _ _ => rfl) c s
@[simp] theorem setError_startup (c : ErrorCause) (s : State) : (s.setError c).startup = s.startup :=
  setError_same (·.startup) (fun _ _ => rfl) c s
@[simp] theorem setError_pins (c : ErrorCause) (s : State) : (s.setError c).pins = s.pins :=
  setError_same (·.pins) (fun _ _ => rfl) c s
@[simp] theorem setError_lines (c : ErrorCause) (s : State) : (s.setError c).lines = s.lines :=
  setError_same (·.lines) (fun _ _ => rfl) c s
@[simp] theorem setError_ports (c : ErrorCause) (s : State) : (s.setError c).ports = s.ports :=
  setError_same (·.ports) (fun _ _ => rfl) c s

@[simp] theorem announceWall_pending (p : Option PortId) (s : State) : (s.announceWall p).pending = s.pending :=
  announceWall_same (·.pending) (fun _ _ => rfl) (fun _ _ => rfl) (fun _ _ _ => rfl) p s
@[simp] theorem announceWall_resetHeld (p : Option PortId) (s : State) : (s.announceWall p).resetHeld = s.resetHeld :=
  announceWall_same (·.resetHeld) (fun _ _ => rfl) (fun _ _ => rfl) (fun _ _ _ => rfl) p s
@[simp] theorem announceWall_wall (p : Option PortId) (s : State) : (s.announceWall p).wall = s.wall :=
  announceWall_same (·.wall) (fun _ _ => rfl) (fun _ _ => rfl) (fun _ _ _ => rfl) p s
@[simp] theorem announceWall_cues (p : Option PortId) (s : State) : (s.announceWall p).cues = s.cues :=
  announceWall_same (·.cues) (fun _ _ => rfl) (fun _ _ => rfl) (fun _ _ _ => rfl) p s
@[simp] theorem announceWall_arbiter (p : Option PortId) (s : State) : (s.announceWall p).arbiter = s.arbiter :=
  announceWall_same (·.arbiter) (fun _ _ => rfl) (fun _ _ => rfl) (fun _ _ _ => rfl) p s
@[simp] theorem announceWall_layouts (p : Option PortId) (s : State) : (s.announceWall p).layouts = s.layouts :=
  announceWall_same (·.layouts) (fun _ _ => rfl) (fun _ _ => rfl) (fun _ _ _ => rfl) p s
@[simp] theorem announceWall_adverts (p : Option PortId) (s : State) : (s.announceWall p).adverts = s.adverts :=
  announceWall_same (·.adverts) (fun _ _ => rfl) (fun _ _ => rfl) (fun _ _ _ => rfl) p s
@[simp] theorem announceWall_plan (p : Option PortId) (s : State) : (s.announceWall p).plan = s.plan :=
  announceWall_same (·.plan) (fun _ _ => rfl) (fun _ _ => rfl) (fun _ _ _ => rfl) p s
@[simp] theorem announceWall_store (p : Option PortId) (s : State) : (s.announceWall p).store = s.store :=
  announceWall_same (·.store) (fun _ _ => rfl) (fun _ _ => rfl) (fun _ _ _ => rfl) p s
@[simp] theorem announceWall_tiles (p : Option PortId) (s : State) : (s.announceWall p).tiles = s.tiles :=
  announceWall_same (·.tiles) (fun _ _ => rfl) (fun _ _ => rfl) (fun _ _ _ => rfl) p s
@[simp] theorem announceWall_console (p : Option PortId) (s : State) : (s.announceWall p).console = s.console :=
  announceWall_same (·.console) (fun _ _ => rfl) (fun _ _ => rfl) (fun _ _ _ => rfl) p s
@[simp] theorem announceWall_startup (p : Option PortId) (s : State) : (s.announceWall p).startup = s.startup :=
  announceWall_same (·.startup) (fun _ _ => rfl) (fun _ _ => rfl) (fun _ _ _ => rfl) p s
@[simp] theorem announceWall_pins (p : Option PortId) (s : State) : (s.announceWall p).pins = s.pins :=
  announceWall_same (·.pins) (fun _ _ => rfl) (fun _ _ => rfl) (fun _ _ _ => rfl) p s

/-! ### What entered notices leave of a port -/

/-- A reader of a port that no entered notice reaches is unchanged by a change that only raises notices there. -/
theorem enter_port_same {τ : Type} (m : Port → τ) (h : ∀ q k, m (Port.enter k q) = m q) (q : PortId) (s : State)
    (p : PortId) (k : Notice) : m ((s.modPort p (Port.enter k)).port q) = m (s.port q) := by
  rw [enter_port]
  split
  · next e => rw [h, e]
  · rfl

@[simp] theorem raise_port_link (q : PortId) (p : PortId) (k : Notice) (s : State) : ((s.raise p k).port q).link = (s.port q).link :=
  raise_same (fun s => (s.port q).link) (enter_port_same (·.link) (fun _ _ => rfl) q) p k s
@[simp] theorem raise_port_cause (q : PortId) (p : PortId) (k : Notice) (s : State) : ((s.raise p k).port q).cause = (s.port q).cause :=
  raise_same (fun s => (s.port q).cause) (enter_port_same (·.cause) (fun _ _ => rfl) q) p k s
@[simp] theorem raise_port_queue (q : PortId) (p : PortId) (k : Notice) (s : State) : ((s.raise p k).port q).queue = (s.port q).queue :=
  raise_same (fun s => (s.port q).queue) (enter_port_same (·.queue) (fun _ _ => rfl) q) p k s
@[simp] theorem raise_port_inProgress (q : PortId) (p : PortId) (k : Notice) (s : State) : ((s.raise p k).port q).inProgress = (s.port q).inProgress :=
  raise_same (fun s => (s.port q).inProgress) (enter_port_same (·.inProgress) (fun _ _ => rfl) q) p k s
@[simp] theorem raise_port_mask (q : PortId) (p : PortId) (k : Notice) (s : State) : ((s.raise p k).port q).mask = (s.port q).mask :=
  raise_same (fun s => (s.port q).mask) (enter_port_same (·.mask) (fun _ _ => rfl) q) p k s
@[simp] theorem raise_port_stray (q : PortId) (p : PortId) (k : Notice) (s : State) : ((s.raise p k).port q).stray = (s.port q).stray :=
  raise_same (fun s => (s.port q).stray) (enter_port_same (·.stray) (fun _ _ => rfl) q) p k s
@[simp] theorem raise_port_outbox (q : PortId) (p : PortId) (k : Notice) (s : State) : ((s.raise p k).port q).outbox = (s.port q).outbox :=
  raise_same (fun s => (s.port q).outbox) (enter_port_same (·.outbox) (fun _ _ => rfl) q) p k s
@[simp] theorem raise_linkUp (q : PortId) (p : PortId) (k : Notice) (s : State) : (s.raise p k).linkUp q = s.linkUp q := by simp [linkUp]

@[simp] theorem raiseBoth_port_link (q : PortId) (k : Notice) (s : State) : ((s.raiseBoth k).port q).link = (s.port q).link :=
  raiseBoth_same (fun s => (s.port q).link) (enter_port_same (·.link) (fun _ _ => rfl) q) k s
@[simp] theorem raiseBoth_port_cause (q : PortId) (k : Notice) (s : State) : ((s.raiseBoth k).port q).cause = (s.port q).cause :=
  raiseBoth_same (fun s => (s.port q).cause) (enter_port_same (·.cause) (fun _ _ => rfl) q) k s
@[simp] theorem raiseBoth_port_queue (q : PortId) (k : Notice) (s : State) : ((s.raiseBoth k).port q).queue = (s.port q).queue :=
  raiseBoth_same (fun s => (s.port q).queue) (enter_port_same (·.queue) (fun _ _ => rfl) q) k s
@[simp] theorem raiseBoth_port_inProgress (q : PortId) (k : Notice) (s : State) : ((s.raiseBoth k).port q).inProgress = (s.port q).inProgress :=
  raiseBoth_same (fun s => (s.port q).inProgress) (enter_port_same (·.inProgress) (fun _ _ => rfl) q) k s
@[simp] theorem raiseBoth_port_mask (q : PortId) (k : Notice) (s : State) : ((s.raiseBoth k).port q).mask = (s.port q).mask :=
  raiseBoth_same (fun s => (s.port q).mask) (enter_port_same (·.mask) (fun _ _ => rfl) q) k s
@[simp] theorem raiseBoth_port_stray (q : PortId) (k : Notice) (s : State) : ((s.raiseBoth k).port q).stray = (s.port q).stray :=
  raiseBoth_same (fun s => (s.port q).stray) (enter_port_same (·.stray) (fun _ _ => rfl) q) k s
@[simp] theorem raiseBoth_port_outbox (q : PortId) (k : Notice) (s : State) : ((s.raiseBoth k).port q).outbox = (s.port q).outbox :=
  raiseBoth_same (fun s => (s.port q).outbox) (enter_port_same (·.outbox) (fun _ _ => rfl) q) k s
@[simp] theorem raiseBoth_linkUp (q : PortId) (k : Notice) (s : State) : (s.raiseBoth k).linkUp q = s.linkUp q := by simp [linkUp]

@[simp] theorem fire_port_link (q : PortId) (k : TriggerId) (src : FireSource) (s : State) : ((s.fire k src).port q).link = (s.port q).link :=
  fire_same (fun s => (s.port q).link) (fun _ _ => rfl) (fun _ _ => rfl) (enter_port_same (·.link) (fun _ _ => rfl) q) k src s
@[simp] theorem fire_port_cause (q : PortId) (k : TriggerId) (src : FireSource) (s : State) : ((s.fire k src).port q).cause = (s.port q).cause :=
  fire_same (fun s => (s.port q).cause) (fun _ _ => rfl) (fun _ _ => rfl) (enter_port_same (·.cause) (fun _ _ => rfl) q) k src s
@[simp] theorem fire_port_queue (q : PortId) (k : TriggerId) (src : FireSource) (s : State) : ((s.fire k src).port q).queue = (s.port q).queue :=
  fire_same (fun s => (s.port q).queue) (fun _ _ => rfl) (fun _ _ => rfl) (enter_port_same (·.queue) (fun _ _ => rfl) q) k src s
@[simp] theorem fire_port_inProgress (q : PortId) (k : TriggerId) (src : FireSource) (s : State) : ((s.fire k src).port q).inProgress = (s.port q).inProgress :=
  fire_same (fun s => (s.port q).inProgress) (fun _ _ => rfl) (fun _ _ => rfl) (enter_port_same (·.inProgress) (fun _ _ => rfl) q) k src s
@[simp] theorem fire_port_mask (q : PortId) (k : TriggerId) (src : FireSource) (s : State) : ((s.fire k src).port q).mask = (s.port q).mask :=
  fire_same (fun s => (s.port q).mask) (fun _ _ => rfl) (fun _ _ => rfl) (enter_port_same (·.mask) (fun _ _ => rfl) q) k src s
@[simp] theorem fire_port_stray (q : PortId) (k : TriggerId) (src : FireSource) (s : State) : ((s.fire k src).port q).stray = (s.port q).stray :=
  fire_same (fun s => (s.port q).stray) (fun _ _ => rfl) (fun _ _ => rfl) (enter_port_same (·.stray) (fun _ _ => rfl) q) k src s
@[simp] theorem fire_port_outbox (q : PortId) (k : TriggerId) (src : FireSource) (s : State) : ((s.fire k src).port q).outbox = (s.port q).outbox :=
  fire_same (fun s => (s.port q).outbox) (fun _ _ => rfl) (fun _ _ => rfl) (enter_port_same (·.outbox) (fun _ _ => rfl) q) k src s
@[simp] theorem fire_linkUp (q : PortId) (k : TriggerId) (src : FireSource) (s : State) : (s.fire k src).linkUp q = s.linkUp q := by simp [linkUp]

@[simp] theorem fireMask_port_link (q : PortId) (mask : BitVec 8) (src : FireSource) (s : State) : ((s.fireMask mask src).port q).link = (s.port q).link :=
  fireMask_same (fun s => (s.port q).link) (fun _ _ => rfl) (fun _ _ => rfl) (enter_port_same (·.link) (fun _ _ => rfl) q) mask src s
@[simp] theorem fireMask_port_cause (q : PortId) (mask : BitVec 8) (src : FireSource) (s : State) : ((s.fireMask mask src).port q).cause = (s.port q).cause :=
  fireMask_same (fun s => (s.port q).cause) (fun _ _ => rfl) (fun _ _ => rfl) (enter_port_same (·.cause) (fun _ _ => rfl) q) mask src s
@[simp] theorem fireMask_port_queue (q : PortId) (mask : BitVec 8) (src : FireSource) (s : State) : ((s.fireMask mask src).port q).queue = (s.port q).queue :=
  fireMask_same (fun s => (s.port q).queue) (fun _ _ => rfl) (fun _ _ => rfl) (enter_port_same (·.queue) (fun _ _ => rfl) q) mask src s
@[simp] theorem fireMask_port_inProgress (q : PortId) (mask : BitVec 8) (src : FireSource) (s : State) : ((s.fireMask mask src).port q).inProgress = (s.port q).inProgress :=
  fireMask_same (fun s => (s.port q).inProgress) (fun _ _ => rfl) (fun _ _ => rfl) (enter_port_same (·.inProgress) (fun _ _ => rfl) q) mask src s
@[simp] theorem fireMask_port_mask (q : PortId) (mask : BitVec 8) (src : FireSource) (s : State) : ((s.fireMask mask src).port q).mask = (s.port q).mask :=
  fireMask_same (fun s => (s.port q).mask) (fun _ _ => rfl) (fun _ _ => rfl) (enter_port_same (·.mask) (fun _ _ => rfl) q) mask src s
@[simp] theorem fireMask_port_stray (q : PortId) (mask : BitVec 8) (src : FireSource) (s : State) : ((s.fireMask mask src).port q).stray = (s.port q).stray :=
  fireMask_same (fun s => (s.port q).stray) (fun _ _ => rfl) (fun _ _ => rfl) (enter_port_same (·.stray) (fun _ _ => rfl) q) mask src s
@[simp] theorem fireMask_port_outbox (q : PortId) (mask : BitVec 8) (src : FireSource) (s : State) : ((s.fireMask mask src).port q).outbox = (s.port q).outbox :=
  fireMask_same (fun s => (s.port q).outbox) (fun _ _ => rfl) (fun _ _ => rfl) (enter_port_same (·.outbox) (fun _ _ => rfl) q) mask src s
@[simp] theorem fireMask_linkUp (q : PortId) (mask : BitVec 8) (src : FireSource) (s : State) : (s.fireMask mask src).linkUp q = s.linkUp q := by simp [linkUp]

@[simp] theorem react_port_link (q : PortId) (e : Stimulus) (s : State) : ((s.react e).port q).link = (s.port q).link :=
  react_same (fun s => (s.port q).link) (fun _ _ => rfl) (fun _ _ => rfl) (enter_port_same (·.link) (fun _ _ => rfl) q) e s
@[simp] theorem react_port_cause (q : PortId) (e : Stimulus) (s : State) : ((s.react e).port q).cause = (s.port q).cause :=
  react_same (fun s => (s.port q).cause) (fun _ _ => rfl) (fun _ _ => rfl) (enter_port_same (·.cause) (fun _ _ => rfl) q) e s
@[simp] theorem react_port_queue (q : PortId) (e : Stimulus) (s : State) : ((s.react e).port q).queue = (s.port q).queue :=
  react_same (fun s => (s.port q).queue) (fun _ _ => rfl) (fun _ _ => rfl) (enter_port_same (·.queue) (fun _ _ => rfl) q) e s
@[simp] theorem react_port_inProgress (q : PortId) (e : Stimulus) (s : State) : ((s.react e).port q).inProgress = (s.port q).inProgress :=
  react_same (fun s => (s.port q).inProgress) (fun _ _ => rfl) (fun _ _ => rfl) (enter_port_same (·.inProgress) (fun _ _ => rfl) q) e s
@[simp] theorem react_port_mask (q : PortId) (e : Stimulus) (s : State) : ((s.react e).port q).mask = (s.port q).mask :=
  react_same (fun s => (s.port q).mask) (fun _ _ => rfl) (fun _ _ => rfl) (enter_port_same (·.mask) (fun _ _ => rfl) q) e s
@[simp] theorem react_port_stray (q : PortId) (e : Stimulus) (s : State) : ((s.react e).port q).stray = (s.port q).stray :=
  react_same (fun s => (s.port q).stray) (fun _ _ => rfl) (fun _ _ => rfl) (enter_port_same (·.stray) (fun _ _ => rfl) q) e s
@[simp] theorem react_port_outbox (q : PortId) (e : Stimulus) (s : State) : ((s.react e).port q).outbox = (s.port q).outbox :=
  react_same (fun s => (s.port q).outbox) (fun _ _ => rfl) (fun _ _ => rfl) (enter_port_same (·.outbox) (fun _ _ => rfl) q) e s
@[simp] theorem react_linkUp (q : PortId) (e : Stimulus) (s : State) : (s.react e).linkUp q = s.linkUp q := by simp [linkUp]

@[simp] theorem announceWall_port_link (q : PortId) (p : Option PortId) (s : State) : ((s.announceWall p).port q).link = (s.port q).link :=
  announceWall_same (fun s => (s.port q).link) (fun _ _ => rfl) (fun _ _ => rfl) (enter_port_same (·.link) (fun _ _ => rfl) q) p s
@[simp] theorem announceWall_port_cause (q : PortId) (p : Option PortId) (s : State) : ((s.announceWall p).port q).cause = (s.port q).cause :=
  announceWall_same (fun s => (s.port q).cause) (fun _ _ => rfl) (fun _ _ => rfl) (enter_port_same (·.cause) (fun _ _ => rfl) q) p s
@[simp] theorem announceWall_port_queue (q : PortId) (p : Option PortId) (s : State) : ((s.announceWall p).port q).queue = (s.port q).queue :=
  announceWall_same (fun s => (s.port q).queue) (fun _ _ => rfl) (fun _ _ => rfl) (enter_port_same (·.queue) (fun _ _ => rfl) q) p s
@[simp] theorem announceWall_port_inProgress (q : PortId) (p : Option PortId) (s : State) : ((s.announceWall p).port q).inProgress = (s.port q).inProgress :=
  announceWall_same (fun s => (s.port q).inProgress) (fun _ _ => rfl) (fun _ _ => rfl) (enter_port_same (·.inProgress) (fun _ _ => rfl) q) p s
@[simp] theorem announceWall_port_mask (q : PortId) (p : Option PortId) (s : State) : ((s.announceWall p).port q).mask = (s.port q).mask :=
  announceWall_same (fun s => (s.port q).mask) (fun _ _ => rfl) (fun _ _ => rfl) (enter_port_same (·.mask) (fun _ _ => rfl) q) p s
@[simp] theorem announceWall_port_stray (q : PortId) (p : Option PortId) (s : State) : ((s.announceWall p).port q).stray = (s.port q).stray :=
  announceWall_same (fun s => (s.port q).stray) (fun _ _ => rfl) (fun _ _ => rfl) (enter_port_same (·.stray) (fun _ _ => rfl) q) p s
@[simp] theorem announceWall_port_outbox (q : PortId) (p : Option PortId) (s : State) : ((s.announceWall p).port q).outbox = (s.port q).outbox :=
  announceWall_same (fun s => (s.port q).outbox) (fun _ _ => rfl) (fun _ _ => rfl) (enter_port_same (·.outbox) (fun _ _ => rfl) q) p s
@[simp] theorem announceWall_linkUp (q : PortId) (p : Option PortId) (s : State) : (s.announceWall p).linkUp q = s.linkUp q := by simp [linkUp]

end Sys2Proof.Machine.State
end

