-- ==== Sys2Proof/Machine/Formats.lean ====
section
/-! DEFINITION. The bytes of the messages the part sends (R170, R171). -/

namespace Sys2Proof.Machine

/-- The bytes of a message on a player link (R170). A readiness message that still waits has no bytes yet. -/
def PortMsg.bytes : PortMsg → List Byte
  | .response kind tag code body =>
    [0x81, kind] ++ Wire.u16 tag.toNat ++ [code.byte] ++ Wire.u16 body.length ++ body
  | .readinessDue => []
  | .readiness bits => [0x82] ++ Wire.u8 bits.toNat

/-- The content byte of a dispatch header (R171). -/
def Content.code : Content → Nat
  | .picture => 0 | .black => 1 | .marker => 2 | .test => 3

/-- The end byte of a dispatch end (R171). -/
def EndKind.code : EndKind → Nat
  | .complete => 0 | .blackEnd => 1 | .voidEnd => 2

/-- The bytes of a message to a tile (R171). -/
def TileMsg.bytes : TileMsg → List Byte
  | .sync n test => [0x01] ++ Wire.refresh n ++ Wire.bit test
  | .trainingRequest => [0x02]
  | .dispatch n content level x y w h dw dh data =>
    [0x03] ++ Wire.refresh n ++ Wire.u8 content.code ++ Wire.u8 level ++ Wire.u16 x ++ Wire.u16 y ++ Wire.u16 w ++
    Wire.u16 h ++ Wire.u16 dw ++ Wire.u16 dh ++ data
  | .dispatchEnd n kind => [0x04] ++ Wire.refresh n ++ Wire.u8 kind.code
  | .service bytes => [0x05] ++ Wire.u8 bytes.length ++ bytes

end Sys2Proof.Machine
end

