-- ==== Sys2Proof/Tests/Slice0.lean ====
section
/-! SUPPORT. The model's own tests: the smoke test of the well-formedness check, a witness for the hypotheses of every
statement, and one-step tests whose expected values come from the manual's text and examples. -/

namespace Sys2Proof.Tests

set_option Elab.async false

open Sys2Proof Sys2Proof.Machine

/-! ### Well-formedness -/

theorem test_fill_number_above_its_range_is_refused : (Instr.release 0 (2 ^ 32)).wellFormed = false := by decide
theorem test_picture_of_part_of_a_pixel_is_refused : (Instr.frameArrivalEnd .a [0]).wellFormed = false := by decide
theorem test_framed_type_byte_is_refused : (Instr.unframeableMessage .a 0x01).wellFormed = false := by decide
theorem test_kind_of_another_request_is_refused : (Instr.readClock .a 0x02 0 []).wellFormed = false := by decide
theorem test_body_longer_than_its_header_can_say_is_refused (body : List Byte) (h : 65536 ≤ body.length) :
    (Instr.setClock .a 0 body).wellFormed = false := by
  simp [Instr.wellFormed, bodyFits, h]
theorem test_known_tile_message_is_refused : (Instr.tileUnknownMessage 0 0x81).wellFormed = false := by decide
theorem test_empty_service_message_is_refused : (Instr.serviceBytes 0 []).wellFormed = false := by decide
theorem test_number_longer_than_a_line_is_refused :
    (Instr.layout (10 ^ 26)).wellFormed = false ∧ (Instr.wrap (10 ^ 26)).wellFormed = false := by decide
theorem test_commands_of_the_manual_are_well_formed :
    (Instr.readClock .a 0xFF 0 []).wellFormed = true ∧ (Instr.release 0 (2 ^ 32 - 1)).wellFormed = true ∧
      (Instr.serviceBytes 0 (List.replicate 255 0)).wellFormed = true ∧ (Instr.layout 16).wellFormed = true := by decide +kernel

/-! ### The states the tests start from -/

/-- A frame of stream S0. -/
def frame (number : Nat) : Frame :=
  { stream := 0, gen := 1, number := number, width := 1, height := 1, picture := [1, 2, 3] }

/-- Tile 0 LIVE, tile 1 DOWN, tile 2 TRAINING with its count run out, tile 3 FAULTED. -/
def upTiles : Table 24 Tile :=
  ((((Table.fill 24 Tile.reset).set 0 { Tile.reset with state := .live, linkUp := true, depth := some 2 }).set
    1 { Tile.reset with state := .down }).set
    2 { Tile.reset with state := .training, linkUp := true, training := some 0 }).set
    3 { Tile.reset with state := .faulted, linkUp := true, reason := some .misses }

/-- Line 0 an INPUT whose debounce count has run out, line 1 an OUTPUT whose pulse count has run out, line 2 an ERROR
line. -/
def upLines : Table 12 Line :=
  (((Table.fill 12 Line.reset).set 0 { Line.reset with settled := false, debounceCount := some 0 }).set
    1 { Line.reset with config := { LineConfig.default with mode := .output }, pulseCount := some 0 }).set
    2 { Line.reset with config := { LineConfig.default with mode := .error } }

/-- Buffer 0 queued, buffer 1 held with two references; S0 queues buffer 0. -/
def upStore : FrameStore :=
  { buffers := ((Table.fill 48 Buffer.reset).set
      0 { Buffer.reset with state := .queued, fill := 1, frame := some (frame 3) }).set
      1 { Buffer.reset with state := .held, fill := 1, refs := 2, frame := some (frame 2) }
    streams := (Table.fill 8 Stream.reset).set 0 { Stream.reset with
      config := { StreamConfig.default with width := 1, height := 1 }, currentGen := some 1, current := [0] }
    capture := none, overflow := false, failures := 0, arrivals := { a := none, b := none }, releases := [(1, 1)] }

/-- A part after start-up, STOPPED with both links UP, before its outputs settle; timer 0 has run out, and a pick of S0
waits. -/
def up : State :=
  { State.reset with
    resetHeld := false
    wall := { WallTiming.reset with state := .stopped }
    ports := { a := { Port.reset with link := .up }, b := { Port.reset with link := .up } }
    startup := { Startup.reset with phase := .ended, rateChanged := true, passed := 48 }
    tiles := upTiles
    lines := { LineBlock.reset with lines := upLines }
    triggers := { TriggerUnit.reset with timers := (Table.fill 2 Timer.reset).set 0 { Timer.reset with running := true } }
    plan := { Plan.reset with handoffs := (Table.fill 8 []).set 0 [.pick 0 1 5 1] }
    store := upStore }

/-- The part of `up` with frame 4 of S0 arriving on port A, into buffer 2. -/
def arriving : State :=
  { up with store := { up.store with
      buffers := up.store.buffers.set 2 { Buffer.reset with state := .filling, fill := 1, frame := some (frame 4) }
      arrivals := { a := some 2, b := none } } }

/-- The part of `up` while the wall is RUNNING, with boundary 0 due. -/
def running : State :=
  { up with
    wall := { WallTiming.reset with state := .running, epoch := some 1000, clock := 1000 }
    plan := { up.plan with newest := some 1 } }

/-- The state after a command; every command completes. -/
def after (c : Instr) (s : State) : State :=
  match exec c s with
  | .next t => t
  | _ => s

theorem atRest (X : State) (h : X.resetHeld = false) : X.settle.AtRest :=
  ⟨by rw [State.settle_resetHeld]; exact h, State.settle_quiet X⟩

/-- A settled state at rest is a witness for what holds of it. -/
theorem rests {P : State → Prop} (X : State) (h : X.resetHeld = false) (p : P X.settle) : ∃ s : State, s.AtRest ∧ P s :=
  ⟨_, atRest X h, p⟩

/-- A settled state whose port takes a request is a witness for what holds of it. -/
theorem takes {P : State → Prop} (X : State) (p : PortId) (body : List Byte) (h : X.resetHeld = false)
    (hu : X.linkUp p = true) (hc : X.store.arrivals.get p = none) (hq : (X.port p).queue = [])
    (hi : (X.port p).inProgress = none) (hb : body.length ≤ 4096) (x : P X.settle) : ∃ s : State, s.Takes p body ∧ P s :=
  ⟨_, ⟨⟨by simpa using h, by simpa using hu, by simpa using hc, by simpa using hq, State.settle_idle hi⟩,
    State.settle_quiet X, hb⟩, x⟩

/-! ### Witnesses: states that meet the hypotheses of each statement, clause by clause -/

/-- A step from a state with a command at the front of its queue. -/
theorem stepped (s : State) (c : Instr) : ∃ t, step { s with pending := [c] } = .next t := by
  cases c <;> exact ⟨_, rfl⟩

theorem witness_StepTakesTheFrontCommandAndCompletes :
    { up with pending := [.help, .map] }.pending = .help :: [.map] ∧ State.reset.pending = [] := by decide

theorem witness_StepKeepsOutputsTrueAndGrantsClaims :
    ∃ s t : State, s.Quiet ∧ step s = .next t ∧ s.wall.state = .stopped :=
  ⟨{ up with pending := [.showTick] }.settle, _, State.settle_quiet _, rfl, by simp; decide⟩

theorem witness_StepKeepsEveryStoreWithinItsBound :
    ∃ s t : State, s.Bounded ∧ step s = .next t ∧ s.cues.list = [] :=
  ⟨{ up with pending := [.showTick] }, _, ⟨by decide, by decide, by decide, by decide, by decide⟩, rfl, rfl⟩

theorem witness_StepKeepsTilesAndConfigurationLegal :
    ∃ s t : State, s.TilesFit ∧ s.ConfigLegal ∧ step s = .next t ∧ (s.tile 0).state = .live ∧
      (s.tile 0).depth = some s.wall.horizon :=
  ⟨{ up with pending := [.showTick] }, _,
    ⟨by decide +kernel, by decide +kernel, by decide⟩,
    ⟨by decide, by decide, by decide, by decide, by decide, by decide +kernel, by decide +kernel, by decide⟩,
    rfl, by decide, by decide⟩

/-- Group G2 programmed, and a programming of G1 in progress. -/
def programmed : State :=
  { up with startup := { up.startup with
      groups := up.startup.groups.modify 2 fun g => { g with programmed := true }
      programming := some { group := 1, port := .a, answered := true } } }

theorem witness_StepNeverRewritesAProgrammedGroup :
    ∃ s t : State, s.StoreOnce ∧ step s = .next t ∧ (s.group 2).programmed = true ∧ s.startup.programming ≠ none :=
  ⟨{ programmed with pending := [.programmingEnd] }, _, fun x h => by cases h; decide, rfl, by decide, by decide⟩

theorem witness_NoticeAndStatusLinesShowTheState :
    (∃ s : State, s.Settled ∧ (s.port .a).link = .up ∧ (s.port .a).notices = 1 ∧ (s.port .a).mask = 0xFF) ∧
    (∃ s t : State, s.Quiet ∧ step s = .next t) ∧
    (∃ s : State, s.Settled ∧ s.wall.state = .stopped ∧ s.startup.select = 5) ∧
    (∀ w : WallState, ∃ s : State, s.Settled ∧ s.wall.state = w) ∧ ∃ s t : State, exec .coldReset s = .next t :=
  ⟨⟨({ up with ports := { up.ports with a := { up.ports.a with notices := 1 } } }).settle,
      (State.settle_quiet _).outputs, by simp; decide⟩,
    ⟨{ up with pending := [.showTick] }.settle, _, State.settle_quiet _, rfl⟩,
    ⟨({ up with startup := { up.startup with select := 5 } }).settle, (State.settle_quiet _).outputs, by simp; decide⟩,
    fun w => ⟨({ up with wall := { up.wall with state := w } }).settle, (State.settle_quiet _).outputs, by simp⟩,
    ⟨up, _, rfl⟩⟩

theorem witness_ReadinessAndDrivenLevelsFollowTheirRules :
    ∃ s : State, s.Settled ∧ (s.line 0).config.mode = .input ∧ (s.line 1).config.mode = .output ∧
      (s.line 2).config.mode = .error ∧ (s.port .a).link = .up ∧ (s.buffer 3).state = .free :=
  ⟨up.settle, (State.settle_quiet _).outputs, by simp; decide⟩

/-- A part whose start-up is in phase `p`, with select code `sel`. -/
def starting (p : StartPhase) (sel : BitVec 3) (passed : Nat) : State :=
  { State.reset with
    resetHeld := false
    startup := { Startup.reset with phase := p, select := sel, passed := passed } }

theorem witness_ColdResetAndItsRelease :
    (∃ s : State, s.Quiet ∧ s.resetHeld = true ∧ s.wall.state = .starting) ∧ ∃ s : State, s.Quiet ∧ s.resetHeld = false :=
  ⟨⟨State.reset.settle, State.settle_quiet _, by simp; decide⟩, ⟨up.settle, State.settle_quiet _, by simp; decide⟩⟩

theorem witness_StoreLoadEndTakesTheConfiguration :
    (∃ s : State, s.AtRest ∧ s.startup.phase = .storeLoad) ∧ ∃ s : State, s.AtRest ∧ s.startup.phase ≠ .storeLoad :=
  ⟨rests (starting .storeLoad 0 0) rfl (by simp; decide), rests up rfl (by simp; decide)⟩

theorem witness_MaskShiftAndStoreCheckEnd :
    (∃ s : State, s.AtRest ∧ s.startup.phase = .maskShift) ∧ (∃ s : State, s.AtRest ∧ s.startup.phase ≠ .maskShift) ∧
    (∃ s : State, s.AtRest ∧ s.startup.phase = .storeCheck ∧ s.startup.select ≠ 6) ∧
    (∃ s : State, s.AtRest ∧ s.startup.phase = .storeCheck ∧ s.startup.select = 6) ∧
    ∃ s : State, s.AtRest ∧ s.startup.phase ≠ .storeCheck :=
  ⟨rests (starting .maskShift 0 0) rfl (by simp; decide), rests up rfl (by simp; decide),
    rests (starting .storeCheck 0 0) rfl (by simp; decide), rests (starting .storeCheck 6 0) rfl (by simp; decide),
    rests up rfl (by simp; decide)⟩

/-- Each select code with 8 buffers, 7 buffers, and each code with an epoch that would pass 2^48−1. -/
theorem witness_RateChangeEntersTheStartState :
    (∀ sel : BitVec 3, ∃ s : State, s.AtRest ∧ s.startup.phase = .applying ∧ s.startup.rateChanged = false ∧
      s.startup.passed = 8 ∧ s.startup.select = sel ∧ (s.wall.clock / s.period + 1) * s.period ≤ maxClock) ∧
    (∃ s : State, s.AtRest ∧ s.startup.phase = .applying ∧ s.startup.rateChanged = false ∧ s.startup.passed = 7) ∧
    ∀ sel : BitVec 3, ∃ s : State, s.AtRest ∧ s.startup.phase = .applying ∧ s.startup.rateChanged = false ∧
      s.startup.passed = 8 ∧ s.startup.select = sel ∧ maxClock < (s.wall.clock / s.period + 1) * s.period :=
  ⟨fun sel => rests (starting .applying sel 8) rfl (by
      simp [starting, State.period, periodOf, State.reset, WallTiming.reset, Startup.reset, maxClock]),
    rests (starting .applying 0 7) rfl (by simp; decide),
    fun sel => rests { starting .applying sel 8 with wall := { WallTiming.reset with clock := maxClock } } rfl (by
      simp [starting, State.period, periodOf, WallTiming.reset, Startup.reset, maxClock])⟩

/-- Trigger 0 enabled on a condition, with an action. -/
def armed (c : Condition) (m : Option Nat) (a : Action) (s : State) : State :=
  s.modTrigger 0 fun t => { t with enabled := true, defn := { t.defn with condition := c, mark := m, action := a } }

theorem witness_ShowTickMovesTheClockAndEveryCount :
    (∃ s : State, s.AtRest ∧ s.NoTriggers ∧ s.wall.clock = maxClock) ∧
    (∃ s : State, s.AtRest ∧ (s.trigger 0).enabled = true ∧ (s.trigger 0).defn.condition = .clock ∧
      (s.trigger 0).defn.mark = some 1 ∧ (s.trigger 0).defn.action.marks = none ∧
      (s.trigger 0).defn.action.chain = none ∧ 1 ≤ min (s.wall.clock + 1) maxClock ∧ (s.trigger 0).last = false ∧
      ∀ i, i ≠ 0 → (s.trigger i).enabled = true → (s.trigger i).defn.condition ≠ .clock) ∧
    ∃ s : State, s.AtRest ∧ (s.trigger 0).enabled = true ∧ (s.trigger 0).defn.condition = .clock ∧
      (s.trigger 0).defn.mark = some 1 ∧ (s.trigger 0).last = true ∧ 1 ≤ min (s.wall.clock + 1) maxClock :=
  ⟨rests { up with wall := { up.wall with clock := maxClock } } rfl ⟨fun k => by simp; revert k; decide, by simp⟩,
    rests (armed .clock (some 1) .empty up) rfl (by simp only [State.settle_trigger, State.settle_wall]; decide),
    rests ((armed .clock (some 1) .empty up).modTrigger 0 fun t => { t with last := true }) rfl
      (by simp only [State.settle_trigger, State.settle_wall]; decide)⟩

theorem witness_BoundaryCommitsTheHorizonRefresh :
    (∃ s : State, s.AtRest ∧ s.wall.state = .running ∧ s.wall.epoch = some 1000 ∧ s.wall.newest = none ∧
      1000 + 0 * s.period ≤ s.wall.clock ∧ 0 < s.wall.horizon ∧ (s.tile 0).linkUp = true) ∧
    (∃ s : State, s.AtRest ∧ s.wall.state = .dark ∧ s.wall.epoch = some 1000 ∧ 1000 ≤ s.wall.clock) ∧
    (∃ s : State, s.AtRest ∧ s.wall.state = .running ∧ s.wall.epoch = some 1000 ∧ s.wall.clock = 999) ∧
    ∃ s : State, s.AtRest ∧ s.wall.state = .stopped :=
  ⟨rests running rfl (by simp; decide),
    rests { running with wall := { running.wall with state := .dark } } rfl (by simp; decide),
    rests { running with wall := { running.wall with clock := 999 } } rfl (by simp; decide),
    rests up rfl (by simp; decide)⟩

theorem witness_BoundaryJudgesAndFeedsEachLiveTile :
    (∃ s : State, s.AtRest ∧ s.wall.state = .running ∧ s.wall.epoch = some 1000 ∧ 1000 ≤ s.wall.clock ∧
      s.wall.newest = none ∧ (s.tile 0).state = .live ∧ (s.tile 0).depth = some 2) ∧
    ∀ run : Nat, ∃ s : State, s.AtRest ∧ s.wall.state = .running ∧ s.wall.epoch = some 1000 ∧
      1000 + 2 * s.period ≤ s.wall.clock ∧ s.wall.newest = some 1 ∧ (s.tile 0).state = .live ∧
      (s.tile 0).depth = some 2 ∧ 0 ∈ (s.tile 0).awaiting ∧ (s.tile 0).missRun = run :=
  ⟨rests running rfl (by simp; decide), fun run => rests
    ({ running with wall := { running.wall with newest := some 1, clock := 3000 } }.modTile 0 fun t =>
      { t with awaiting := [0], missRun := run }) rfl
    (by simp [State.period, periodOf, running, up, WallTiming.reset, upTiles, Tile.reset]
        exact ⟨rfl, rfl⟩)⟩

theorem witness_TestBoundaryFeedsTilesAndCounts :
    (∀ inPass : Nat, ∃ s : State, s.AtRest ∧ s.wall.state = .testing ∧ s.wall.epoch = some 1000 ∧ 1000 ≤ s.wall.clock ∧
      s.wall.newest = none ∧ s.console.mode = .test ∧ s.console.inPass = inPass ∧ (s.tile 0).state = .live ∧
      (s.tile 0).depth = some 2) ∧
    ∃ s : State, s.AtRest ∧ s.wall.state = .running :=
  ⟨fun inPass => rests
    { up with
      wall := { running.wall with state := .testing }
      console := { up.console with mode := .test, inPass := inPass } } rfl
    (by simp; exact ⟨rfl, Nat.le_of_ble_eq_true rfl, rfl, rfl, rfl⟩),
    rests running rfl (by simp; decide)⟩

theorem witness_CountsThatReachZeroEnd :
    (∀ n : Nat, ∃ s : State, s.AtRest ∧ s.cues.hold = some { holder := .a, lapse := n } ∧ (s.port .a).link = .up) ∧
    (∃ s : State, s.AtRest ∧ (s.line 1).pulseCount = some 0 ∧ (s.line 1).config.mode = .output ∧ s.lines.dark = false) ∧
    (∃ s : State, s.AtRest ∧ (s.line 0).pulseCount ≠ some 0) ∧
    (∃ s : State, s.AtRest ∧ (s.triggers.timers.get 0).running = true ∧ (s.triggers.timers.get 0).count = 0 ∧
      s.NoTriggers) ∧
    (∃ s : State, s.AtRest ∧ (s.triggers.timers.get 0).running = true ∧ (s.triggers.timers.get 0).count = 0 ∧
      (s.trigger 0).enabled = true ∧ (s.trigger 0).defn.condition = .timer 0 ∧ (s.trigger 0).defn.action = .empty ∧
      ∀ o, o ≠ 0 → (s.trigger o).enabled = true → (s.trigger o).defn.condition ≠ .timer 0) ∧
    ∃ s : State, s.AtRest ∧ (s.triggers.timers.get 1).running = false :=
  ⟨fun n => rests { up with cues := { up.cues with hold := some { holder := .a, lapse := n } } } rfl (by simp; rfl),
    rests up rfl (by simp; decide), rests up rfl (by simp; decide),
    rests up rfl ⟨by simp; decide, by simp; decide, fun k => by simp; revert k; decide⟩,
    rests (armed (.timer 0) none .empty up) rfl
      (by simp only [State.settle_trigger, State.settle_triggers]; decide),
    rests up rfl (by simp; decide)⟩

theorem witness_TrainingTimeoutFaultsTheTileSilent :
    (∃ s : State, s.AtRest ∧ (s.tile 2).state = .training ∧ (s.tile 2).training = some 0 ∧ (s.tile 2).linkUp = true ∧
      (s.port .a).link = .up) ∧
    ∃ s : State, s.AtRest ∧ (s.tile 1).state ≠ .training :=
  ⟨rests up rfl (by simp; decide), rests up rfl (by simp; decide)⟩

theorem witness_InputLinesAreDebounced :
    (∃ s : State, s.AtRest ∧ (s.line 0).rawHigh ≠ false ∧ (s.line 0).config.mode = .input ∧
      (s.line 0).settled = false ∧ (s.line 0).config.polarity = .activeHigh) ∧
    (∃ s : State, s.AtRest ∧ (s.line 3).rawHigh ≠ false ∧ (s.line 3).config.mode = .input ∧
      (s.line 3).settled = true ∧ (s.line 3).config.debounce = 600) ∧
    (∃ s : State, s.AtRest ∧ s.NoTriggers ∧ (s.line 4).rawHigh ≠ false ∧ (s.line 4).config.mode = .input ∧
      (s.line 4).settled = true ∧ (s.line 4).config.debounce = 0) ∧
    (∃ s : State, s.AtRest ∧ (s.line 1).rawHigh ≠ false ∧ (s.line 1).config.mode ≠ .input) ∧
    (∃ s : State, s.AtRest ∧ s.NoTriggers ∧ (s.line 0).config.mode = .input ∧ (s.line 0).debounceCount = some 0) ∧
    (∃ s : State, s.AtRest ∧ (s.line 0).config.mode = .input ∧ (s.line 0).debounceCount = some 0 ∧
      (s.line 0).rawHigh = true ∧ (s.trigger 0).enabled = true ∧ (s.trigger 0).defn.condition = .line 0 .rise ∧
      (s.trigger 0).defn.action.chain = none ∧ ∀ o, o ≠ 0 → (s.trigger o).enabled = false) ∧
    (∃ s : State, s.AtRest ∧ (s.line 3).debounceCount ≠ some 0) ∧ (∃ s : State, s.AtRest ∧ (s.line 3).rawHigh = true) ∧
    State.reset.resetHeld = true :=
  ⟨rests up rfl (by simp; decide), rests up rfl (by simp; decide),
    rests (up.modLine 4 fun x => { x with config := { x.config with debounce := 0 } }) rfl
      ⟨fun k => by simp; revert k; decide, by simp; decide⟩,
    rests up rfl (by simp; decide), rests up rfl ⟨fun k => by simp; revert k; decide, by simp; decide⟩,
    rests (armed (.line 0 .rise) none .empty up) rfl
      (by simp only [State.settle_trigger, State.settle_line]; decide),
    rests up rfl (by simp; decide), rests up rfl (by simp; decide), rfl⟩

/-- The second clause's cases: a frame to be queued, one at the floor, one of another generation, one of the pending
generation; then a duplicate and one without room in the current section, one past the length, and a duplicate in the
pending section. -/
theorem witness_FramesArriveIntoTheQueue :
    (∃ s : State, s.AtRest ∧ (s.port .b).link = .up ∧ s.store.arrivals.get .b = none ∧ s.streamReady 4 = true ∧
      (s.buffer 3).state = .free ∧ ∀ i, i < 3 → (s.buffer i).state ≠ .free) ∧
    (∃ s : State, s.AtRest ∧ (s.port .b).link = .up ∧ s.store.arrivals.get .b = none ∧ s.streamReady 4 = false) ∧
    (∃ s : State, s.AtRest ∧ s.store.arrivals.get .a ≠ none) ∧
    (∃ s : State, s.AtRest ∧ s.store.arrivals.get .a = some 2 ∧ (s.buffer 2).frame = some (frame 4) ∧
      (s.stream 0).config.width = 1 ∧ (s.stream 0).config.height = 1 ∧ (s.stream 0).currentGen = some 1 ∧
      (s.stream 0).floor = none ∧ (s.stream 0).currentMode = none ∧ (s.stream 0).current = [0] ∧
      (s.buffer 0).frame = some (frame 3) ∧ s.store.load 0 < (s.stream 0).config.limit) ∧
    (∃ s : State, s.AtRest ∧ s.store.arrivals.get .a = some 2 ∧ (s.buffer 2).frame = some (frame 4) ∧
      (s.stream 0).config.width = 1 ∧ (s.stream 0).config.height = 1 ∧ (s.stream 0).currentGen = some 1 ∧
      (s.stream 0).floor = some 4) ∧
    (∃ s : State, s.AtRest ∧ s.store.arrivals.get .a = some 2 ∧ (s.buffer 2).frame = some (frame 4) ∧
      (s.stream 0).currentGen = some 2 ∧ (s.stream 0).pendingGen = none) ∧
    (∃ s : State, s.AtRest ∧ s.store.arrivals.get .a = some 2 ∧ (s.buffer 2).frame = some (frame 4) ∧
      (s.stream 0).config.width = 1 ∧ (s.stream 0).config.height = 1 ∧ (s.stream 0).currentGen = none ∧
      (s.stream 0).pendingGen = some 1 ∧ (s.stream 0).pending = [] ∧ s.store.load 0 < (s.stream 0).config.limit) ∧
    (∃ s : State, s.AtRest ∧ s.store.arrivals.get .a = some 2 ∧ (s.buffer 2).frame = some (frame 3) ∧
      (s.stream 0).currentGen = some 1 ∧ (s.stream 0).floor = none ∧ (s.stream 0).current = [0] ∧
      (s.buffer 0).frame = some (frame 3)) ∧
    (∃ s : State, s.AtRest ∧ s.store.arrivals.get .a = some 2 ∧ (s.buffer 2).frame = some (frame 4) ∧
      (s.stream 0).currentGen = some 1 ∧ (s.stream 0).floor = none ∧ s.store.load 0 = (s.stream 0).config.limit) ∧
    (∃ s : State, s.AtRest ∧ s.store.arrivals.get .a = some 2 ∧ (s.buffer 2).frame = some (frame 4) ∧
      (s.stream 0).currentGen = some 1 ∧ (s.stream 0).floor = none ∧ (s.stream 0).currentMode = some .hold ∧
      (s.stream 0).currentLength = some 4) ∧
    ∃ s : State, s.AtRest ∧ s.store.arrivals.get .a = some 2 ∧ (s.buffer 2).frame = some (frame 3) ∧
      (s.stream 0).currentGen = some 2 ∧ (s.stream 0).pendingGen = some 1 ∧ (s.stream 0).pending = [0] ∧
      (s.buffer 0).frame = some (frame 3) :=
  let on := fun (x : State) (f : Stream → Stream) => { x with store := { x.store with streams := x.store.streams.modify 0 f } }
  let st := on arriving
  let again := { arriving with store := { arriving.store with
    buffers := arriving.store.buffers.modify 2 fun x => { x with frame := some (frame 3) } } }
  ⟨rests arriving rfl (by simp [State.streamReady]; decide),
    rests { arriving with store := { arriving.store with streams := arriving.store.streams.modify 4 fun x =>
      { x with config := { x.config with limit := 0 } } } } rfl (by simp [State.streamReady]; decide),
    rests arriving rfl (by simp; decide), rests arriving rfl (by simp; decide +kernel),
    rests (st fun x => { x with floor := some 4 }) rfl (by simp; decide),
    rests (st fun x => { x with currentGen := some 2 }) rfl (by simp; decide),
    rests (st fun x => { x with currentGen := none, pendingGen := some 1 }) rfl (by simp; decide +kernel),
    rests again rfl (by simp; decide),
    rests (st fun x => { x with config := { x.config with limit := 2 } }) rfl (by simp; decide +kernel),
    rests (st fun x => { x with currentMode := some .hold, currentLength := some 4 }) rfl (by simp; decide),
    rests (on again fun x => { x with current := [], pending := [0], currentGen := some 2, pendingGen := some 1 }) rfl
      (by simp; decide)⟩

theorem witness_PickAnswersFromTheQueue :
    (∃ s : State, s.AtRest ∧ s.plan.handoffs.get 0 = [.pick 0 1 5 1] ∧ (s.stream 0).current = [0] ∧
      (s.stream 0).pending = [] ∧ (s.stream 0).lastPicked = none ∧ (s.buffer 0).frame = some (frame 3)) ∧
    (∃ s : State, s.AtRest ∧ s.plan.handoffs.get 0 = [.pick 0 2 5 1] ∧ (s.stream 0).current = [0] ∧
      (s.buffer 0).frame = some (frame 3) ∧ (s.stream 0).lastPicked = none ∧ (s.stream 0).floor = none ∧
      (s.stream 0).starving = true) ∧
    ∃ s : State, s.AtRest ∧ s.plan.handoffs.get 0 = [.pick 0 2 5 1] ∧ (s.stream 0).current = [0] ∧
      (s.buffer 0).frame = some (frame 3) ∧ (s.stream 0).lastPicked = some 1 ∧ (s.stream 0).floor = some 5 ∧
      (s.stream 0).starving = false :=
  let other := { up with plan := { up.plan with handoffs := (Table.fill 8 []).set 0 [.pick 0 2 5 1] } }
  ⟨rests up rfl (by simp; decide), rests other rfl (by simp; decide),
    rests { other with store := { up.store with streams := up.store.streams.modify 0 fun x =>
      { x with lastPicked := some 1, floor := some 5, starving := false } } } rfl (by simp; decide)⟩

theorem witness_PickAnswerFillsThePlanEntry :
    (∃ s : State, s.AtRest ∧ s.plan.handoffs.get 0 = [.pick 0 1 5 1] ∧ ∃ e ∈ s.plan.entries, e.refresh = 0 ∧
      e.complete = false ∧ e.unanswered = [0] ∧ ∃ r ∈ e.records, r.source = .stream 0) ∧
    ∃ s : State, s.AtRest ∧ s.plan.handoffs.get 1 = [] :=
  let r : TileRecord := { pos := 0, source := .stream 0, x := 0, y := 0, buffer := .awaiting, level := 0,
                          disposition := .opened }
  let e : PlanEntry := { refresh := 0, complete := false, dark := false, level := 0, records := [r], unanswered := [0] }
  ⟨rests { up with plan := { up.plan with entries := [e] } } rfl (by simp; exact ⟨rfl, rfl, rfl, rfl, r, .head _, rfl⟩),
    rests up rfl (by simp; decide)⟩

theorem witness_ReleaseDropsOneReference :
    (∃ s : State, s.AtRest ∧ (1, 1) ∈ s.store.releases ∧ (s.buffer 1).fill = 1 ∧ (s.buffer 1).refs = 2) ∧
    (∀ bad : Bool, ∃ s : State, s.AtRest ∧ (1, 1) ∈ s.store.releases ∧ (s.buffer 1).fill = 1 ∧ (s.buffer 1).refs = 1 ∧
      (s.buffer 1).bad = bad) ∧
    (∃ s : State, s.AtRest ∧ (1, 0) ∈ s.store.releases ∧ (s.buffer 1).fill ≠ 0) ∧
    (∃ s : State, s.AtRest ∧ (3, 0) ∈ s.store.releases ∧ (s.buffer 3).refs = 0) ∧
    ∃ s : State, s.AtRest ∧ (2, 1) ∉ s.store.releases :=
  ⟨rests up rfl (by simp; decide),
    fun bad => rests { up with store := { up.store with buffers := up.store.buffers.modify 1 fun x =>
      { x with refs := 1, bad := bad } } } rfl (by simp; exact ⟨.head _, rfl, rfl, rfl⟩),
    rests { up with store := { up.store with releases := [(1, 0)] } } rfl (by simp; decide),
    rests { up with store := { up.store with releases := [(3, 0)] } } rfl (by simp; decide),
    rests up rfl (by simp; decide)⟩

/-- Tile 0 sends a picture from buffer 1, with the dispatch of refresh 1 queued behind it. -/
def sending : State :=
  { running with tiles := running.tiles.modify 0 fun t => { t with dispatches :=
      [{ refresh := 0, phase := .sending (.record
           { pos := 0, source := .stream 0, x := 0, y := 0, buffer := .buffer 1 1 1 2, level := 9,
             disposition := .taken }) true },
       { refresh := 1, phase := .queued .marker }] } }

theorem witness_IntegrityFailureCondemnsTheBuffer :
    (∃ s : State, s.AtRest ∧
      ((s.tile 0).dispatches.head?.map (·.phase) = some (.sending (.record
        { pos := 0, source := .stream 0, x := 0, y := 0, buffer := .buffer 1 1 1 2, level := 9,
          disposition := .taken }) true)) ∧
      (s.buffer 1).bad = false ∧ (s.buffer 1).frame = some (frame 2) ∧ (s.stream 0).lastPicked ≠ some 1 ∧
      s.store.capture = none) ∧
    (∃ s : State, s.AtRest ∧ (s.tile 0).dispatches.length = 2 ∧ (s.buffer 1).bad = false ∧
      (s.stream 0).lastPicked = some 1 ∧ s.store.capture ≠ none ∧ s.triggers.disableOnError = true) ∧
    (∃ s : State, s.AtRest ∧ (s.tile 0).dispatches = []) ∧
    ∃ s : State, s.AtRest ∧ (s.tile 0).dispatches = (sending.tile 0).dispatches ∧ (s.buffer 1).bad = true :=
  ⟨rests sending rfl (by simp; decide),
    rests { sending with
      triggers := { sending.triggers with disableOnError := true }
      store := { sending.store with
        capture := some { buffer := 0, stream := 0, gen := 0, number := 0, tile := 0, refresh := 0 }
        streams := sending.store.streams.modify 0 fun x => { x with lastPicked := some 1 } } } rfl (by simp; decide),
    rests up rfl (by simp; decide),
    rests { sending with store := { sending.store with
      buffers := sending.store.buffers.modify 1 fun x => { x with bad := true } } } rfl (by simp; decide)⟩

/-- The part of `up` with both links DOWN. -/
def linksDown : State :=
  { up with ports := { a := { Port.reset with link := .down }, b := { Port.reset with link := .down } } }

theorem witness_LinkUpAndReadinessMessages :
    (∃ s : State, s.AtRest ∧ (s.port .a).link = .down ∧ (s.stream 0).config.flushOpen = true ∧
      (s.stream 0).current = [0]) ∧
    ∃ s : State, s.AtRest ∧ (s.port .a).link = .up :=
  ⟨rests linksDown rfl (by simp; decide), rests up rfl (by simp; decide)⟩

theorem witness_LinkDownDropsThePlayersSide :
    (∃ s : State, s.AtRest ∧ (s.port .a).link = .up ∧ s.cues.hold = some { holder := .a, lapse := 1 } ∧
      s.arbiter.granted = some { claimant := .port .a, op := .cancel none, answered := true } ∧
      s.store.arrivals.get .a = some 2 ∧ (s.stream 0).config.flushClose = true) ∧
    (∃ s : State, s.AtRest ∧ (s.port .a).link ≠ .up) ∧ (0x03 : Byte) ≠ 0x01 ∧ (0x03 : Byte) ≠ 0x02 :=
  ⟨rests { arriving with
      cues := { up.cues with hold := some { holder := .a, lapse := 1 } }
      store := { arriving.store with streams := arriving.store.streams.modify 0 fun x =>
        { x with config := { x.config with flushClose := true } } }
      arbiter := { up.arbiter with
        granted := some { claimant := .port .a, op := .cancel none, answered := true } } } rfl
      (by rw [State.settle_arbiter_granted rfl]; simp; decide),
    rests linksDown rfl (by simp; decide), by decide⟩

/-- A queue of `n` requests at port A, which has a PROGRAM STORE in progress. -/
def busy (n : Nat) : State :=
  { up with ports := { up.ports with a := { up.ports.a with
      queue := List.replicate n { kind := .run, tag := 0, body := [] }
      inProgress := some { request := { kind := .programStore, tag := 0, body := [0] }, granted := false } } } }

theorem busy_unclaimed (n : Nat) (r : Requester) : (busy n).claimOf r = none := by
  cases r with
  | port p => cases p <;> rfl
  | console => rfl
  | trigger => rfl

theorem witness_body_too_long : 4096 < (List.replicate 4097 (0 : Byte)).length := by
  rw [List.length_replicate]
  exact Nat.lt_succ_self _

theorem witness_ArrivingRequestsAreQueuedOrRefused :
    (∃ s : State, s.AtRest ∧ (s.port .a).link = .up ∧ (0xFF : Byte) ∉ requestKinds) ∧
    (∃ s : State, s.AtRest ∧ (s.port .a).link = .up ∧ 4 ≤ (s.port .a).queue.length) ∧
    (∃ s : State, s.AtRest ∧ (s.port .a).link = .up ∧ (s.port .a).queue.length = 3 ∧ (s.port .a).inProgress ≠ none) ∧
    (∃ s : State, s.AtRest ∧ (s.port .a).link ≠ .up) ∧
    ∃ s : State, s.Takes .a [] ∧ ReqKind.run.takenIn s.wall.state = false :=
  ⟨rests up rfl (by simp; decide), rests (busy 4) rfl (by simp; decide),
    rests (busy 3) rfl (by
      refine ⟨by simp; rfl, by simp; rfl, ?_⟩
      rw [State.settle, (State.settlePins_claims _).progress, (State.arbitrate_eq_self_iff _).2
        (.inr fun r _ _ => busy_unclaimed 3 r)]
      decide),
    rests linksDown rfl (by simp; decide), takes running .a [] rfl rfl rfl rfl rfl (by decide) (by simp; decide)⟩

theorem witness_ReadsReportAndChangeNothing :
    (∃ s : State, s.Takes .a [0x05, 0x00] ∧ s.isServing = true ∧ Wire.num 2 [0x05, 0x00] = some (5, []) ∧
      State.listFlags [0x01, 0x00] = some (true, false)) ∧
    (∃ s : State, s.Takes .a [0x00] ∧ s.isServing = true ∧ Wire.opt (Wire.num 1) [0x00] = some (none, []) ∧
      Wire.opt (Wire.num 5) [0x00] = some (none, [])) ∧
    (∃ s : State, s.Takes .a [0x01, 0x07] ∧ s.isServing = true ∧ Wire.opt (Wire.num 1) [0x01, 0x07] = some (some 7, [])) ∧
    (∀ b : Bool, ∃ s : State, s.Takes .a [0x00, if b then 0x01 else 0x00] ∧ s.isServing = true ∧
      Wire.num 1 [0x00, if b then 0x01 else 0x00] = some (0, [if b then 0x01 else 0x00]) ∧
      Wire.flag [if b then 0x01 else 0x00] = some (b, []) ∧
      Wire.opt (Wire.num 1) [0x00, if b then 0x01 else 0x00] = some (none, [if b then 0x01 else 0x00])) ∧
    ∃ s : State, s.Takes .a [0x04, 0x01] ∧ s.isServing = true ∧ Wire.num 1 [0x04, 0x01] = some (4, [0x01]) :=
  ⟨takes up .a _ rfl rfl rfl rfl rfl (by decide) (by simp [State.isServing]; decide),
    takes up .a _ rfl rfl rfl rfl rfl (by decide) (by simp [State.isServing]; decide),
    takes up .a _ rfl rfl rfl rfl rfl (by decide) (by simp [State.isServing]; decide),
    fun b => takes up .a _ rfl rfl rfl rfl rfl (by cases b <;> decide) (by cases b <;> simp [State.isServing] <;> decide),
    takes up .a _ rfl rfl rfl rfl rfl (by decide) (by simp [State.isServing]; decide)⟩

theorem witness_ReadLinesReportsAllTwelveLines :
    ∀ b : Bool, ∃ s : State, s.Takes .a [if b then 0x01 else 0x00] ∧ s.wall.state = .testing ∧
      Wire.flag [if b then 0x01 else 0x00] = some (b, []) :=
  fun b => takes { up with wall := { up.wall with state := .testing } } .a _ rfl rfl rfl rfl rfl (by cases b <;> decide)
    (by cases b <;> simp <;> decide)

theorem witness_NoticesAreReadAndMasked :
    (∃ s : State, s.Takes .a [] ∧ s.wall.state = .stopped) ∧
    ∃ s : State, s.Takes .a [0x00] ∧ s.wall.state = .dark ∧ Wire.num 1 [0x00] = some (0, []) :=
  ⟨takes up .a _ rfl rfl rfl rfl rfl (by decide) (by simp; decide),
    takes { running with wall := { running.wall with state := .dark } } .a _ rfl rfl rfl rfl rfl (by decide)
      (by simp; decide)⟩

theorem witness_SetClockWritesTheShowClock :
    (∃ s : State, s.Takes .a [0xFF, 0xFF, 0xFF, 0xFF, 0xFF, 0xFF] ∧ s.wall.state = .stopped ∧
      Wire.num 6 [0xFF, 0xFF, 0xFF, 0xFF, 0xFF, 0xFF] = some (2 ^ 48 - 1, [])) ∧
    ∃ s : State, s.Takes .a [0, 0, 0, 0, 0] ∧ s.wall.state = .stopped ∧ Wire.num 6 [0, 0, 0, 0, 0] = none :=
  ⟨takes up .a _ rfl rfl rfl rfl rfl (by decide) (by simp; decide),
    takes up .a _ rfl rfl rfl rfl rfl (by decide) (by simp; decide)⟩

/-- A CONFIGURE WALL body that carries the rate, or the horizon, alone. -/
def rateBody (r : Byte) : List Byte := [1, r, 0, 0, 0, 0, 0, 0, 0, 0, 0, 0]
def horizonBody (h : Byte) : List Byte := [0, 1, h, 0, 0, 0, 0, 0, 0, 0, 0, 0]

/-- The horizon raised to 6, past S0's limit of 6; lowered below tile 0's depth; and a rate outside its set. -/
theorem witness_ConfigureWallWritesEveryFieldPresent :
    (∃ s : State, s.Takes .a (horizonBody 6) ∧ s.wall.state = .stopped ∧ s.wall.horizon = 2 ∧
      (Wire.wallFields (horizonBody 6)).any State.wallFieldsOk = true ∧ (s.stream 0).config.limit < 6 + 2) ∧
    (∃ s : State, s.Takes .a (horizonBody 1) ∧ s.wall.state = .stopped ∧ s.wall.horizon = 2 ∧
      (Wire.wallFields (horizonBody 1)).any State.wallFieldsOk = true ∧ (s.tile 0).state = .live ∧
      (s.tile 0).depth = some 2) ∧
    ∃ s : State, s.Takes .a (rateBody 61) ∧ s.wall.state = .stopped ∧
      (Wire.wallFields (rateBody 61)).map State.wallFieldsOk = some false :=
  ⟨takes up .a _ rfl rfl rfl rfl rfl (by decide) (by simp; decide),
    takes up .a _ rfl rfl rfl rfl rfl (by decide) (by simp; decide),
    takes up .a _ rfl rfl rfl rfl rfl (by decide) (by simp; decide)⟩

theorem witness_RunSetsTheEpochAndPrimesThePlan :
    (∃ s : State, s.Takes .a [] ∧ s.wall.state = .stopped ∧ (s.wall.clock / s.period + 1) * s.period ≤ 2 ^ 48 - 1 ∧
      s.NoTriggers ∧ s.linkUp .b = true) ∧
    ∃ s : State, s.Takes .a [] ∧ s.wall.state = .stopped ∧
      2 ^ 48 - 1 < (s.wall.clock / s.period + 1) * s.period :=
  ⟨takes up .a _ rfl rfl rfl rfl rfl (by decide)
      ⟨by simp; decide, by simp; decide, fun k => by simp; revert k; decide, by simp; decide⟩,
    takes { up with wall := { up.wall with clock := maxClock } } .a _ rfl rfl rfl rfl rfl (by decide) (by simp; decide)⟩

/-- A cue of port A, due at `time` under late policy `late`. -/
def cue (id time : Nat) (due : Option Nat) (late : LatePolicy) (kind : CueKind) : Cue :=
  { id := id, owner := .port .a, kind := kind, time := time, due := due, late := late, gate := .none, waiting := false,
    seq := id }

theorem witness_RunReEpochsTheCueList :
    ∃ s : State, s.Takes .a [] ∧ s.wall.state = .stopped ∧
      s.cues.list = [cue 1 0 none .slip .goDark, cue 2 2000 none .strict .wake, cue 3 3001 none .strict .goDark] ∧
      (s.cues.list.map (·.id)).Nodup ∧ (s.wall.clock / s.period + 1) * s.period ≤ 2 ^ 48 - 1 :=
  takes { up with cues := { up.cues with list :=
      [cue 1 0 none .slip .goDark, cue 2 2000 none .strict .wake, cue 3 3001 none .strict .goDark] } } .a _ rfl rfl rfl rfl rfl
    (by decide) (by simp; decide)

theorem witness_StopEndsTheRun : ∃ s : State, s.Takes .a [] ∧ s.wall.state = .running ∧ s.linkUp .b = true :=
  takes running .a _ rfl rfl rfl rfl rfl (by decide) (by simp; decide)

theorem witness_WipeEmptiesTheWall :
    ∃ s : State, s.Takes .a [] ∧ s.wall.state = .stopped ∧ (s.buffer 5).state = .retired ∧
      (s.buffer 1).bad = true ∧ (s.buffer 1).state = .held ∧ (s.buffer 0).bad = false :=
  takes { up with store := { up.store with
      buffers := (up.store.buffers.modify 1 fun x => { x with bad := true }).modify 5 fun x =>
        { x with state := .retired, cause := some .check } } } .a _ rfl rfl rfl rfl rfl (by decide) (by simp; decide)

theorem witness_ClaimsWaitAndAreGrantedInRotation :
    (∃ s : State, s.Takes .a [] ∧ s.arbiter.granted.isSome = true) ∧
    (∃ s : State, s.Takes .a [] ∧ s.arbiter.granted = none ∧
      HighMember.requester (.port .a) ∈ s.arbiter.high) ∧
    (∃ s : State, s.arbiter.granted = none ∧ s.arbiter.high = [] ++ .requester (.port .a) :: [.requester (.port .b), .lowGroup] ∧
      s.arbiter.high.Nodup ∧ s.claimOf (.port .a) = some (.port .a, .cancel none)) ∧
    ∃ s : State, s.arbiter.granted = none ∧
      s.arbiter.high = [.requester (.port .a), .requester (.port .b)] ++ .lowGroup :: [] ∧ s.arbiter.high.Nodup ∧
      s.arbiter.low = [] ++ .console :: [.trigger] ∧ s.arbiter.low.Nodup ∧ (s.claimOf .console).isSome = true ∧
      s.claimOf (.port .a) = none ∧ s.claimOf (.port .b) = none :=
  ⟨takes { up with arbiter := { up.arbiter with
        granted := some { claimant := .typed, op := .cancel none, answered := true } } } .a _ rfl rfl rfl rfl rfl (by decide)
      (by rw [State.settle_arbiter_granted rfl]; rfl),
    ⟨up.settle, ⟨⟨by simp; decide, by simp; decide, by simp; decide, by simp; decide, State.settle_idle rfl⟩, State.settle_quiet _,
      Nat.zero_le _⟩, by decide +kernel, by decide +kernel⟩,
    ⟨up.modPort .a fun q => { q with
      inProgress := some { request := { kind := .cancelCue, tag := 0, body := [] }, granted := false } }, by decide⟩,
    ⟨{ up with arbiter := { up.arbiter with typedClaim := some { params := none, due := none, tail := none } } },
      by decide⟩⟩

theorem witness_TheEditHoldIsTakenRenewedAndReleased :
    (∃ s : State, s.Takes .a [0, 1] ∧ s.isServing = true ∧ s.wall.state ≠ .testing ∧
      State.listFlags [0, 1] = some (false, true) ∧ s.cues.hold = none ∧ s.linkUp .b = true) ∧
    (∀ q : PortId, ∃ s : State, s.Takes .a [0, 1] ∧ s.isServing = true ∧ s.wall.state ≠ .testing ∧
      State.listFlags [0, 1] = some (false, true) ∧ s.cues.hold = some { holder := q, lapse := 0 }) ∧
    ∃ s : State, s.Takes .a [0, 1] ∧ s.isServing = true ∧ s.wall.state = .testing :=
  ⟨takes up .a _ rfl rfl rfl rfl rfl (by decide) (by simp [State.isServing]; decide),
    fun q => takes { up with cues := { up.cues with hold := some { holder := q, lapse := 0 } } } .a _ rfl rfl rfl rfl rfl
      (by decide) (by cases q <;> simp [State.isServing] <;> decide),
    takes { up with wall := { up.wall with state := .testing } } .a _ rfl rfl rfl rfl rfl (by decide)
      (by simp [State.isServing])⟩

/-- A DEFINE LAYOUT body with `n` BLACK panes of 8 × 6 from the corner. -/
def layoutBody (l : Byte) (n : Nat) : List Byte :=
  [l, BitVec.ofNat 8 n] ++ (List.replicate n [8, 0, 0, 8, 6, 0, 0, 0, 0]).flatten

theorem witness_DefineLayoutReplacesThePanes :
    (∃ s : State, s.Takes .a (layoutBody 15 8) ∧ s.isEditable = true ∧ s.cues.hold = none ∧
      ((Wire.layoutFields (layoutBody 15 8)).bind fun x => checkPanes x.2).isSome = true ∧
      (Wire.layoutFields (layoutBody 15 8)).map (·.1) = some 15) ∧
    (∃ s : State, s.Takes .a [] ∧ s.isEditable = true ∧ s.cues.hold = some { holder := .b, lapse := 1 }) ∧
    (∃ s : State, s.Takes .a (layoutBody 16 0) ∧ s.isEditable = true ∧ s.cues.hold = none ∧
      (Wire.layoutFields (layoutBody 16 0)).map (·.1) = some 16) ∧
    ∃ s : State, s.Takes .a (layoutBody 0 9) ∧ s.isEditable = true ∧ s.cues.hold = none ∧
      (Wire.layoutFields (layoutBody 0 9)).map (·.2.length) = some 9 :=
  ⟨takes up .a _ rfl rfl rfl rfl rfl (by decide) (by
      simp only [State.isEditable, State.isServing, State.settle_wall, State.settle_cues]; decide),
    takes { up with cues := { up.cues with hold := some { holder := .b, lapse := 1 } } } .a _ rfl rfl rfl rfl rfl (by decide)
      (by
      simp only [State.isEditable, State.isServing, State.settle_wall, State.settle_cues]; decide),
    takes up .a _ rfl rfl rfl rfl rfl (by decide) (by
      simp only [State.isEditable, State.isServing, State.settle_wall, State.settle_cues]; decide),
    takes up .a _ rfl rfl rfl rfl rfl (by decide) (by
      simp only [State.isEditable, State.isServing, State.settle_wall, State.settle_cues]; decide)⟩

/-- S0 with its size changed, with a limit of 2, and another port's stream; one buffer of S0 is HELD. -/
theorem witness_ConfigureStreamWritesAndFlushes :
    (∃ s : State, s.Takes .a [0, 1, 2, 0, 0, 0, 0, 0] ∧ s.wall.state = .stopped ∧
      Wire.num 1 [0, 1, 2, 0, 0, 0, 0, 0] = some (0, [1, 2, 0, 0, 0, 0, 0]) ∧
      (Wire.streamFields [1, 2, 0, 0, 0, 0, 0]).map (·.width) = some (some 2) ∧ (s.stream 0).current = [0] ∧
      (s.buffer 0).state = .queued) ∧
    (∃ s : State, s.Takes .a [0, 0, 0, 1, 2, 0, 0] ∧ s.wall.state = .stopped ∧
      (Wire.streamFields [0, 0, 1, 2, 0, 0]).map (·.limit) = some (some 2) ∧ s.wall.horizon = 2) ∧
    (∃ s : State, s.Takes .a [4, 0, 0, 0, 0, 0] ∧ s.wall.state = .stopped ∧
      Wire.num 1 [4, 0, 0, 0, 0, 0] = some (4, [0, 0, 0, 0, 0])) ∧
    ∃ s : State, s.Takes .a [0, 0, 0, 0, 0, 0] ∧ s.wall.state = .stopped ∧ max 2 (s.wall.horizon + 2) <
      ((List.finRange 48).filter fun b => (s.buffer b).state == .held &&
        (s.buffer b).frame.any fun f => f.stream == 0).length :=
  ⟨takes up .a _ rfl rfl rfl rfl rfl (by decide) (by simp; decide),
    takes up .a _ rfl rfl rfl rfl rfl (by decide) (by simp; decide),
    takes up .a _ rfl rfl rfl rfl rfl (by decide) (by simp; decide),
    takes { up with store := { up.store with
        buffers := .fill 48 { Buffer.reset with state := .held, frame := some (frame 2) } } } .a _ rfl rfl rfl rfl rfl
      (by decide) (by simp; decide +kernel)⟩

theorem witness_ReviveTileRetrainsAFaultedTile :
    (∃ s : State, s.Takes .a [3] ∧ s.isServing = true ∧ Wire.num 1 [3] = some (3, []) ∧ (s.tile 3).state = .faulted ∧
      (s.tile 3).linkUp = true) ∧
    (∃ s : State, s.Takes .a [23] ∧ s.isServing = true ∧ Wire.num 1 [23] = some (23, []) ∧
      (s.tile 23).state ≠ .faulted) ∧
    ∃ s : State, s.Takes .a [24] ∧ s.isServing = true ∧ Wire.num 1 [24] = some (24, []) :=
  ⟨takes up .a _ rfl rfl rfl rfl rfl (by decide) (by simp [State.isServing]; decide),
    takes up .a _ rfl rfl rfl rfl rfl (by decide) (by simp [State.isServing]; decide),
    takes up .a _ rfl rfl rfl rfl rfl (by decide) (by simp [State.isServing]; decide)⟩

/-- Line 11 to OUTPUT; the width alone; line 12; a width outside its set; a mode outside its set; a field without a line. -/
theorem witness_SetLineWritesSettingsAndRetakes :
    (∃ s : State, s.Takes .a [1, 11, 1, 1, 0, 0, 0, 0, 0, 0] ∧ s.isServing = true ∧
      ((Wire.lineFields [1, 11, 1, 1, 0, 0, 0, 0, 0, 0]).bind fun f =>
        State.newLineConfig f (s.line 11).config).isSome = true) ∧
    (∃ s : State, s.Takes .a [0, 0, 0, 0, 0, 0, 0, 1, 30, 0] ∧ s.isServing = true ∧
      (Wire.lineFields [0, 0, 0, 0, 0, 0, 0, 1, 30, 0]).map (·.width) = some (some 30)) ∧
    (Wire.lineFields [1, 12, 0, 0, 0, 0, 0, 0, 0]).map (·.line) = some (some 12) ∧
    (Wire.lineFields [0, 0, 0, 0, 0, 0, 0, 1, 31, 0]).map (·.width) = some (some 31) ∧
    (Wire.lineFields [1, 0, 1, 3, 0, 0, 0, 0, 0, 0]).map (fun f => State.newLineConfig f LineConfig.default) = some none ∧
    (Wire.lineFields [0, 1, 0, 0, 0, 0, 0, 0, 0]).map (fun f => (f.line, State.hasLineField f)) = some (none, true) :=
  ⟨takes up .a _ rfl rfl rfl rfl rfl (by decide) (by simp [State.isServing]; decide),
    takes up .a _ rfl rfl rfl rfl rfl (by decide) (by simp [State.isServing]; decide),
    by decide, by decide, by decide, by decide⟩

theorem witness_TimersAreStartedAndStopped :
    (∃ s : State, s.Takes .a [1, 0, 0, 0, 0, 1] ∧ s.wall.state = .stopped ∧
      Wire.num 1 [1, 0, 0, 0, 0, 1] = some (1, [0, 0, 0, 0, 1]) ∧ Wire.num 4 [0, 0, 0, 0, 1] = some (0, [1]) ∧
      Wire.flag [1] = some (true, [])) ∧
    ∃ s : State, s.Takes .a [2] ∧ s.wall.state = .stopped ∧ Wire.num 1 [2] = some (2, []) :=
  ⟨takes up .a _ rfl rfl rfl rfl rfl (by decide) (by simp; decide),
    takes up .a _ rfl rfl rfl rfl rfl (by decide) (by simp; decide)⟩

/-- An empty definition, one whose timers part starts timer 0 from 0, and a condition outside its set. -/
theorem witness_SetTriggerReplacesTheDefinition :
    (∃ s : State, s.Takes .a [0, 0, 0, 0, 0, 0, 0, 0, 0, 0] ∧ s.isEditable = true ∧ (s.trigger 0).enabled = false ∧
      (Wire.triggerDef [0, 0, 0, 0, 0, 0, 0, 0, 0]).map (·.action) = some .empty) ∧
    (∃ s : State, s.Takes .a [7, 0, 0, 0, 0, 1, 1, 1, 0, 0, 0, 0, 0, 0, 0, 0, 0, 0] ∧ s.isEditable = true ∧
      (s.trigger 7).enabled = false ∧
      (Wire.triggerDef [0, 0, 0, 0, 1, 1, 1, 0, 0, 0, 0, 0, 0, 0, 0, 0, 0]).map (·.action.timers) =
        some (some (.start 0 false, .none))) ∧
    (∃ s : State, s.Takes .a [0, 13] ∧ s.isEditable = true ∧ (s.trigger 0).enabled = false ∧
      Wire.triggerDef [13] = none) ∧
    ∃ s : State, s.Takes .a [0] ∧ s.isEditable = true ∧ (s.trigger 0).enabled = true ∧ Wire.num 1 [0] = some (0, []) :=
  ⟨takes up .a _ rfl rfl rfl rfl rfl (by decide) (by simp [State.isEditable]; decide),
    takes up .a _ rfl rfl rfl rfl rfl (by decide) (by simp [State.isEditable]; decide),
    takes up .a _ rfl rfl rfl rfl rfl (by decide) (by simp [State.isEditable]; decide),
    takes (armed .clock (some 1) .empty up) .a _ rfl rfl rfl rfl rfl (by decide) (by
      simp only [State.settle_trigger, State.isEditable, State.settle_wall]; decide)⟩

theorem witness_TriggersAreEnabledAndTheErrorCleared :
    (∃ s : State, s.Takes .a [0] ∧ s.isEditable = true ∧ Wire.num 1 [0] = some (0, [])) ∧
    (∃ s : State, s.Takes .a [0x80] ∧ s.isEditable = true ∧ Wire.num 1 [0x80] = some (128, []) ∧
      s.triggers.error.flag = false) ∧
    (∃ s : State, s.Takes .a [1] ∧ s.isEditable = true ∧ Wire.num 1 [1] = some (1, []) ∧ s.triggers.error.flag = true ∧
      s.triggers.disableOnError = true ∧ Wire.flag [1] = some (true, []) ∧ s.isServing = true ∧
      (s.line 2).config.mode = .error) ∧
    ∃ s : State, s.Takes .a [2] ∧ s.isEditable = true ∧ Wire.flag [2] = none :=
  ⟨takes up .a _ rfl rfl rfl rfl rfl (by decide) (by simp [State.isEditable]; decide),
    takes up .a _ rfl rfl rfl rfl rfl (by decide) (by simp [State.isEditable]; decide),
    takes { up with triggers := { up.triggers with
        disableOnError := true, error := { flag := true, cause := none, count := 1 } } } .a _ rfl rfl rfl rfl rfl (by decide)
      (by simp [State.isEditable, State.isServing]; decide),
    takes up .a _ rfl rfl rfl rfl rfl (by decide) (by simp [State.isEditable]; decide)⟩

/-- Trigger 0 disabled, fired with no part, with a marks part, and with a chain. -/
theorem witness_FireTriggersFiresTheTriggerNamed :
    (∃ s : State, s.Takes .a [1] ∧ s.isEditable = true ∧ Wire.num 1 [1] = some (2 ^ 0, []) ∧
      (s.trigger 0).enabled = false) ∧
    ∀ a : Action, ∃ s : State, s.Takes .a [1] ∧ s.isEditable = true ∧ Wire.num 1 [1] = some (2 ^ 0, []) ∧
      (s.trigger 0).enabled = true ∧ (s.trigger 0).defn.action = a :=
  ⟨takes up .a _ rfl rfl rfl rfl rfl (by decide) (by simp [State.isEditable]; decide),
    fun a => takes (armed .clock (some 1) a up) .a _ rfl rfl rfl rfl rfl (by decide) (by
      simp only [State.settle_trigger, State.isEditable, State.isServing, State.settle_wall]
      exact ⟨rfl, rfl, rfl, rfl⟩)⟩

/-- The part of `up` started with select code 7. -/
def service : State := { up with startup := { up.startup with select := 7 } }

/-- Another select code; group G8 not programmed; group G8 programmed; a value outside its set; a programming that
ends. -/
theorem witness_StoreGroupsAreStagedAndProgrammed :
    (∃ s : State, s.Takes .a [8] ∧ s.isServing = true ∧ Wire.num 1 [8] = some (8, []) ∧ s.startup.select ≠ 7) ∧
    (∃ s : State, s.Takes .a [8, 1, 0] ∧ s.isServing = true ∧ Wire.num 1 [8, 1, 0] = some (8, [1, 0]) ∧
      s.startup.select = 7 ∧ s.startup.programming = none ∧ (s.group 8).programmed = false ∧
      (readFields (groupKinds 8) [1, 0]).map (fieldsInRange (groupKinds 8)) = some true) ∧
    (∃ s : State, s.Takes .a [8, 1, 0xFF] ∧ s.isServing = true ∧ s.startup.select = 7 ∧ s.startup.programming = none ∧
      (readFields (groupKinds 8) [1, 0xFF]).map (fieldsInRange (groupKinds 8)) = some false) ∧
    (∃ s : State, s.Takes .a [8, 1, 0] ∧ s.isServing = true ∧ s.startup.select = 7 ∧ s.startup.programming = none ∧
      (s.group 8).programmed = true) ∧
    (∃ s : State, s.AtRest ∧ s.startup.programming = some { group := 1, port := .a, answered := true } ∧
      (s.port .a).queue = [] ∧ (s.port .a).link = .up) ∧
    ∃ s : State, s.AtRest ∧ s.startup.programming = none :=
  ⟨takes up .a _ rfl rfl rfl rfl rfl (by decide) (by simp [State.isServing]; decide +kernel),
    takes service .a _ rfl rfl rfl rfl rfl (by decide) (by simp [State.isServing]; decide +kernel),
    takes service .a _ rfl rfl rfl rfl rfl (by decide) (by simp [State.isServing]; decide +kernel),
    takes { service with startup := { service.startup with
        groups := service.startup.groups.modify 8 fun g => { g with programmed := true } } } .a _ rfl rfl rfl rfl rfl
      (by decide) (by simp [State.isServing]; decide +kernel),
    rests programmed rfl (by simp; decide), rests up rfl (by simp; decide)⟩

/-- The operation `op` of claimant `c` granted in `s`. -/
def granting (c : ClaimFrom) (op : ClaimOp) (s : State) : State :=
  { s with arbiter := { s.arbiter with granted := some { claimant := c, op := op, answered := true } } }

/-- A post of kind `params`, SLIP, with no gate. -/
def post (params : RawParams) (due : RawDue) (late : Nat) : RawPost :=
  { params := some params, due := some due
    tail := some { late := late, gate := 0, patience := none, onTimeout := none } }

/-- A post of port A in STOPPED with a TIME, with next sequence low and at 2^32−1; a NEXT while RUNNING; times on both sides of K; and the Start-up Controller's
post under select code 1. -/
theorem witness_AdmissionInsertsTheCue :
    (∀ seq : Nat, ∃ s : State, s.AtRest ∧
      s.arbiter.granted = some { claimant := .port .a, op := .post (post .goDark (.time 5) 0), answered := true } ∧
      Alone (.port .a) s ∧ s.isEditable = true ∧ s.wall.state = .stopped ∧ s.heldAgainst (.port .a) = none ∧
      (checkPost (post .goDark (.time 5) 0)).isSome = true ∧ s.unknownReference .goDark = false ∧
      s.cues.list = [cue 1 5 none .slip .wake] ∧ s.fixDue (.time 5) .strict = .ok (5, none, false) ∧
      s.cues.nextSeq = seq) ∧
    (∃ s : State, s.AtRest ∧ s.wall.state = .running ∧ s.wall.epoch = some 1000 ∧ s.plan.newest = some 1 ∧
      (2001 - 1000 + s.period - 1) / s.period = 2 ∧ (2000 - 1000 + s.period - 1) / s.period = 1) ∧
    (∃ s : State, s.AtRest ∧ s.wall.state = .running ∧ s.wall.epoch = some 1000 ∧ s.plan.newest = none) ∧
    ∃ s : State, s.AtRest ∧ s.arbiter.granted = some
        { claimant := .startup, op := .post (post (.takeLayout 0) (.time 0) 1), answered := true } ∧
      s.startup.select = 1 ∧ s.wall.state = .stopped ∧ (s.wall.clock / s.period + 1) * s.period ≤ maxClock :=
  ⟨fun seq => rests (granting (.port .a) (.post (post .goDark (.time 5) 0))
      { up with cues := { up.cues with list := [cue 1 5 none .slip .wake], nextSeq := seq } }) rfl (by
        rw [State.settle_arbiter_granted rfl]
        simp only [Alone, State.isEditable, State.isServing, State.heldAgainst, State.holder, State.unknownReference,
          State.fixDue, State.wallRuns, State.settle_wall, State.settle_queue, State.settle_cues]
        exact ⟨rfl, rfl, rfl, rfl, rfl, rfl, trivial, rfl, rfl, rfl⟩),
    rests running rfl (by simp [State.period, periodOf, running, up, WallTiming.reset]),
    rests { running with plan := { running.plan with newest := none } } rfl (by simp; decide),
    rests (granting .startup (.post (post (.takeLayout 0) (.time 0) 1))
      { starting .applying 1 48 with wall := up.wall }) rfl (by
        rw [State.settle_arbiter_granted rfl]
        simp [State.period, periodOf, starting, granting, up, WallTiming.reset, maxClock])⟩

theorem witness_AdmissionRefusesAtTheFirstFailingCheck :
    (∃ s : State, s.AtRest ∧ s.isEditable = false ∧ Alone (.port .a) s ∧
      s.arbiter.granted = some { claimant := .port .a, op := .post (post .goDark (.next 0) 0), answered := true }) ∧
    (∃ s : State, s.AtRest ∧ s.wall.state = .stopped ∧
      s.arbiter.granted = some { claimant := .typed, op := .post (post .goDark (.next 0) 0), answered := true }) ∧
    (∃ s : State, s.AtRest ∧ s.isEditable = true ∧ s.cues.hold = some { holder := .a, lapse := 1 } ∧
      s.arbiter.granted = some { claimant := .typed, op := .post (post .goDark (.time 0) 0), answered := true }) ∧
    (∃ s : State, s.AtRest ∧ s.isEditable = true ∧ s.cues.hold = none ∧ checkPost (post (.takeLayout 16) (.time 0) 0) = none ∧
      s.arbiter.granted =
        some { claimant := .trigger 0, op := .post (post (.takeLayout 16) (.time 0) 0), answered := true }) ∧
    (∃ s : State, s.AtRest ∧ s.isEditable = true ∧ s.cues.hold = none ∧
      (checkPost (post (.startAdvert 0 1 30 9 0) (.time 0) 0)).isSome = true ∧
      (∃ k, (checkPost (post (.startAdvert 7 1 30 9 0) (.time 0) 0)).map (·.kind) = some k ∧
        s.unknownReference k = true) ∧ s.arbiter.granted =
          some { claimant := .typed, op := .post (post (.startAdvert 7 1 30 9 0) (.time 0) 0), answered := true }) ∧
    (∃ s : State, s.AtRest ∧ s.isEditable = true ∧ s.cues.hold = none ∧ s.unknownReference .goDark = false ∧
      s.cues.list.length = 64 ∧
      s.arbiter.granted = some { claimant := .typed, op := .post (post .goDark (.time 0) 0), answered := true }) ∧
    ∃ s : State, s.AtRest ∧ s.isEditable = true ∧ s.cues.hold = none ∧ s.unknownReference .goDark = false ∧
      s.fixDue (.time 2000) .strict = .error (1, 1) ∧
      s.arbiter.granted = some { claimant := .typed, op := .post (post .goDark (.time 2000) 0), answered := true } :=
  ⟨rests (granting (.port .a) (.post (post .goDark (.next 0) 0))
      { up with wall := { running.wall with state := .testing } }) rfl (by
        rw [State.settle_arbiter_granted rfl]
        simp only [Alone, State.isEditable, State.isServing, State.settle_wall, State.settle_queue]
        decide),
    rests (granting .typed (.post (post .goDark (.next 0) 0)) up) rfl (by
        rw [State.settle_arbiter_granted rfl]; simp; decide),
    rests (granting .typed (.post (post .goDark (.time 0) 0))
      { up with cues := { up.cues with hold := some { holder := .a, lapse := 1 } } }) rfl (by
        rw [State.settle_arbiter_granted rfl]
        simp only [State.isEditable, State.isServing, State.settle_wall, State.settle_cues]; decide),
    rests (granting (.trigger 0) (.post (post (.takeLayout 16) (.time 0) 0)) up) rfl (by
        rw [State.settle_arbiter_granted rfl]
        simp only [State.isEditable, State.isServing, State.settle_wall, State.settle_cues]; decide),
    rests (granting .typed (.post (post (.startAdvert 7 1 30 9 0) (.time 0) 0)) up) rfl (by
        rw [State.settle_arbiter_granted rfl]
        simp only [State.isEditable, State.isServing, State.unknownReference, State.settle_wall, State.settle_cues]
        exact ⟨rfl, rfl, by decide, ⟨_, rfl, by decide⟩, rfl⟩),
    rests (granting .typed (.post (post .goDark (.time 0) 0))
      { up with cues := { up.cues with list := List.replicate 64 (cue 1 5 none .slip .wake) } }) rfl (by
        rw [State.settle_arbiter_granted rfl]
        simp only [State.isEditable, State.isServing, State.unknownReference, State.settle_wall, State.settle_cues]
        decide),
    rests (granting .typed (.post (post .goDark (.time 2000) 0)) running) rfl (by
        rw [State.settle_arbiter_granted rfl]
        simp only [State.isEditable, State.isServing, State.unknownReference, State.settle_wall, State.settle_cues]
        refine ⟨rfl, rfl, trivial, ?_, rfl⟩
        simp [State.fixDue, State.wallRuns, dueOf, ceilDiv, State.period, periodOf, running, up, WallTiming.reset, granting])⟩

theorem witness_AdmissionGivesAFreshId :
    ∃ s : State, s.cues.list.length + s.cues.history.length ≤ 96 ∧ s.cues.nextId = 65535 ∧ s.cues.list = [cue 65535 5 none .slip .wake] :=
  ⟨{ up with cues := { up.cues with nextId := 65535, list := [cue 65535 5 none .slip .wake] } }, by decide⟩

/-- Port A's cancel of `id` granted, with cue 1 its own, cue 2 the other port's and cue 3 in the history. -/
def cancelling (id : Option Nat) (s : State) : State :=
  granting (.port .a) (.cancel id) { s with
    cues := { s.cues with
      list := [cue 1 5 none .slip .wake, { cue 2 6 none .slip .wake with owner := .port .b }]
      history := [{ id := 3, owner := .console, kind := .wake, outcome := .applied, refresh := some 4 }] }
    ports := { s.ports with a := { s.ports.a with
      inProgress := some { request := { kind := .cancelCue, tag := 7, body := [] }, granted := true } } } }

theorem cancelling_rests (id : Option Nat) (s : State) (h : s.resetHeld = false) (hu : s.ports.a.link = .up)
    (hq : s.ports.a.queue = []) :
    ∃ t : State, t.AtRest ∧ t.arbiter.granted = some { claimant := .port .a, op := .cancel id, answered := true } ∧
      (t.port .a).link = .up ∧ (t.port .a).queue = [] ∧
      (t.port .a).inProgress = some { request := { kind := .cancelCue, tag := 7, body := [] }, granted := true } ∧
      t.wall = s.wall ∧ t.cues = (cancelling id s).cues :=
  rests (cancelling id s) h (by
    rw [State.settle_arbiter_granted rfl, State.settle_progress_granted rfl, State.settle_link, State.settle_queue]
    exact ⟨rfl, hu, hq, rfl, by simp; rfl, by simp⟩)

theorem witness_CancelRetiresTheCue :
    (∃ s : State, s.AtRest ∧ s.arbiter.granted = some { claimant := .port .a, op := .cancel (some 1), answered := true } ∧
      s.wall.state = .testing) ∧
    (∃ s : State, s.AtRest ∧ s.cues.hold = some { holder := .b, lapse := 1 } ∧ s.wall.state = .stopped) ∧
    ∀ id : Option Nat, ∃ s : State, s.AtRest ∧
      s.arbiter.granted = some { claimant := .port .a, op := .cancel id, answered := true } ∧ (s.port .a).link = .up ∧
      (s.port .a).queue = [] ∧ (s.port .a).inProgress ≠ none ∧ s.wall.state = .stopped ∧ s.cues.hold = none ∧
      (s.cues.list.find? (fun c => c.id == 1)).map (·.owner) = some (.port .a) ∧
      (s.cues.list.find? (fun c => c.id == 2)).map (·.owner) = some (.port .b) ∧
      (s.cues.history.find? (fun e => e.id == 3)).isSome = true ∧
      s.cues.list.find? (fun c => c.id == 4) = none ∧ s.cues.history.find? (fun e => e.id == 4) = none :=
  ⟨rests (cancelling (some 1) { up with wall := { running.wall with state := .testing } }) rfl (by
      rw [State.settle_arbiter_granted rfl]; simp; decide),
    rests (cancelling (some 1) { up with cues := { up.cues with hold := some { holder := .b, lapse := 1 } } }) rfl
      (by simp; decide),
    fun id => by
      obtain ⟨t, hr, hg, hl, hq, hp, hw, hc⟩ := cancelling_rests id up rfl rfl rfl
      refine ⟨t, hr, hg, hl, hq, by simp [hp], by rw [hw]; rfl, ?_⟩
      rw [hc]
      exact ⟨rfl, rfl, rfl, rfl, rfl, rfl⟩⟩

theorem witness_TileLinksTrainLiveAndGoDown :
    (∃ s : State, s.AtRest ∧ (s.tile 1).state = .down ∧ (s.tile 0).state ≠ .down) ∧
    (∃ s : State, s.AtRest ∧ (s.tile 2).linkUp = true ∧ (s.tile 2).state = .training ∧ (s.tile 2).override = none ∧
      s.wall.horizon = 2) ∧
    (∃ s : State, s.AtRest ∧ (s.tile 0).linkUp = true ∧ (s.tile 0).state = .live ∧ (s.tile 0).override = none) ∧
    (∃ s : State, s.AtRest ∧ (s.tile 3).linkUp = true ∧ (s.tile 3).state = .faulted) ∧
    (∃ s : State, s.AtRest ∧ (s.tile 1).linkUp = false ∧ (s.tile 4).state = .off) ∧
    ∀ b : Bool, ∃ s : State, s.AtRest ∧ (s.tile 0).wrapped = b ∧ (s.tile 0).state = .live :=
  ⟨rests up rfl (by simp; decide), rests up rfl (by simp; decide), rests up rfl (by simp; decide),
    rests up rfl (by simp; decide), rests up rfl (by simp; decide),
    fun b => rests (up.modTile 0 fun t => { t with wrapped := b }) rfl (by
      simp only [State.settle_tile]; exact ⟨rfl, rfl⟩)⟩

/-- Refresh 0 awaited by tile 0, after `n` misses in a row, in wall state `w`. -/
def awaiting (w : WallState) (n : Nat) : State :=
  ({ running with wall := { running.wall with state := w } }).modTile 0 fun t => { t with awaiting := [0], missRun := n }

theorem witness_ReportsAreJudgedAndDispatchesEnd :
    (∀ (w : WallState) (n : Nat), ∃ s : State, s.AtRest ∧ s.wall.state = w ∧ (s.tile 0).linkUp = true ∧
      (s.tile 0).state = .live ∧ (s.tile 0).awaiting = [0] ∧ (s.tile 0).missRun = n) ∧
    (∃ s : State, s.AtRest ∧ (s.tile 0).linkUp = true ∧ (s.tile 0).awaiting = [] ∧ (s.tile 1).linkUp = false) ∧
    (∃ s : State, s.AtRest ∧ (s.tile 0).dispatches.map (·.phase) =
      [.sending (.record { pos := 0, source := .stream 0, x := 0, y := 0, buffer := .buffer 1 1 1 2, level := 9,
                           disposition := .taken }) true, .queued .marker]) ∧
    (∃ s : State, s.AtRest ∧ (s.tile 0).dispatches.map (·.phase) = [.sending .marker false]) ∧
    ∃ s : State, s.AtRest ∧ (s.tile 0).dispatches = [] :=
  ⟨fun w n => rests (awaiting w n) rfl (by
      simp only [State.settle_tile, State.settle_wall]; exact ⟨rfl, rfl, rfl, rfl, rfl⟩),
    rests up rfl (by simp; decide), rests sending rfl (by simp only [State.settle_tile]; decide),
    rests (up.modTile 0 fun t => { t with dispatches := [{ refresh := 0, phase := .sending .marker false }] }) rfl
      (by simp only [State.settle_tile]; decide),
    rests up rfl (by simp; decide)⟩

/-- The console in mode `m` with line `line`. -/
def typing (m : ConsoleMode) (line : List Byte) (s : State) : State :=
  { s with console := { s.console with mode := m, line := line } }

/-- WRAP of tile 0, of tile 4 which is OFF, and of 24; in mode WRAP; and the bytes of tiles 0 (wrapped), 2 and 1. -/
theorem witness_WrapJoinsTheServiceChannel :
    (∃ s : State, s.AtRest ∧ s.console.mode = .prompt ∧ (s.tile 0).linkUp = true ∧ (s.tile 0).state ≠ .off ∧
      (s.tile 4).state = .off) ∧
    (∃ s : State, s.AtRest ∧ s.console.mode = .wrap ∧ s.console.target = some 0 ∧ (0x41 : Byte) ≠ 0x04) ∧
    (∃ s : State, s.AtRest ∧ (s.tile 0).linkUp = true ∧ (s.tile 0).wrapped = true) ∧
    ∃ s : State, s.AtRest ∧ s.console.mode ≠ .wrap ∧ (s.tile 2).linkUp = true ∧ (s.tile 2).wrapped = false ∧
      (s.tile 1).linkUp = false :=
  ⟨rests up rfl (by simp; decide),
    rests { up with console := { up.console with mode := .wrap, target := some 0 } } rfl (by simp),
    rests (up.modTile 0 fun t => { t with wrapped := true }) rfl (by simp only [State.settle_tile]; decide),
    rests up rfl (by simp; decide)⟩

theorem witness_ConsoleReportsAndLayout :
    (∃ s : State, s.AtRest ∧ s.console.mode = .prompt ∧ s.arbiter.granted = none ∧ .console ∈ s.arbiter.low ∧
      HighMember.lowGroup ∈ s.arbiter.high) ∧
    ∃ s : State, s.AtRest ∧ s.console.mode = .prompt ∧ s.arbiter.granted.isSome = true :=
  ⟨rests up rfl (by decide +kernel), rests (granting (.port .a) (.cancel none) up) rfl (by
    rw [State.settle_arbiter_granted rfl]; simp; decide)⟩

theorem witness_ConsoleRunsStopsAndTestsTheWall :
    (∃ s : State, s.AtRest ∧ s.console.mode = .prompt ∧ s.wall.state = .stopped ∧
      (s.wall.clock / s.period + 1) * s.period ≤ 2 ^ 48 - 1) ∧
    (∃ s : State, s.AtRest ∧ s.console.mode = .prompt ∧ s.wall.state = .stopped ∧
      2 ^ 48 - 1 < (s.wall.clock / s.period + 1) * s.period) ∧
    (∃ s : State, s.AtRest ∧ s.console.mode = .prompt ∧ s.wall.state = .running) ∧
    (∃ s : State, s.AtRest ∧ s.console.mode = .test ∧ s.wall.state = .testing) ∧
    ∃ s : State, s.AtRest ∧ s.console.mode ≠ .test :=
  ⟨rests up rfl (by simp; decide), rests { up with wall := { up.wall with clock := maxClock } } rfl (by simp; decide),
    rests running rfl (by simp; decide),
    rests (typing .test [] { running with wall := { running.wall with state := .testing } }) rfl (by simp; decide),
    rests up rfl (by simp; decide)⟩

/-- Lines of 0, 27 and 28 characters; a line that ends in a blank; one that names no command; HELP; and the other modes. -/
theorem witness_ConsoleCharactersEditTheLine :
    (∀ (m : ConsoleMode) (line : List Byte), ∃ s : State, s.AtRest ∧ s.console.mode = m ∧ s.console.line = line) ∧
    (∃ s : State, s.AtRest ∧ s.console.mode = .prompt ∧ s.console.afterReturn = true) ∧
    (List.replicate 27 (0x41 : Byte)).length < 28 ∧ 28 ≤ (List.replicate 28 (0x41 : Byte)).length ∧
    (∃ m, readLine [0x46, 0x4F, 0x4F] = .error m) ∧ readLine [0x48, 0x45, 0x4C, 0x50] = .ok .help :=
  ⟨fun m line => rests (typing m line up) rfl (by simp only [State.settle_console]; exact ⟨rfl, rfl⟩),
    rests { up with console := { up.console with afterReturn := true } } rfl (by simp; decide),
    by decide, by decide, ⟨_, rfl⟩, rfl⟩

/-- The advert of S0 with generation 1 at 30 frames a second, started at refresh 0. -/
def timeline : Timeline :=
  { gen := 1, start := 0, rate := 30, length := 9, mode := .loop, cueId := 1, latestRefresh := none,
    latestNumber := none, latestTarget := none, loops := 0, ended := false }

theorem witness_CommitComputesTheFrameNumberAndTarget :
    (0 ≤ 4 ∧ 4 ≤ 5 ∧ (0 < 60 ∧ (4 + 60 / Nat.gcd 30 60 - 0) * 30 / 60 ≤ 2 ^ 32 - 1)) ∧
    (∃ fs : FrameStore, (fs.streams.get 0).currentGen = some 1 ∧ (fs.streams.get 0).currentMode = some .hold ∧
      (fs.streams.get 0).currentLength = some 4 ∧ (frame 4).gen = 1 ∧ 4 ≤ (frame 4).number) ∧
    ∀ dark : Bool, ∃ s : State, s.AtRest ∧ s.wall.state = (if dark then .dark else .running) ∧
      s.wall.epoch = some 1000 ∧ 1000 + 0 * s.period ≤ s.wall.clock ∧ s.wall.newest = none ∧ s.cues.list = [] ∧
      s.adverts.get 0 = some timeline :=
  ⟨by decide,
    ⟨{ up.store with streams := up.store.streams.modify 0 fun x =>
      { x with currentMode := some .hold, currentLength := some 4 } }, by decide⟩,
    fun dark => rests { running with
      wall := { running.wall with state := if dark then .dark else .running }
      adverts := running.adverts.set 0 (some timeline) } rfl (by cases dark <;> simp [State.period, periodOf, running] <;> decide)⟩

theorem witness_TakeComputesTheViewportOrigin :
    ∃ (s : State) (pane : Pane) (post : List Pane), s.layouts.table.get 0 = [] ++ pane :: post ∧ post ≠ [] ∧
      (∀ q ∈ post, s.layouts.geometry.inPane q 23 = false) ∧ pane.source = .stream 0 ∧
      0 < (s.stream 0).config.width ∧ 0 < (s.stream 0).config.height ∧ 0 < s.layouts.geometry.cols ∧
      23 < s.layouts.geometry.cols * s.layouts.geometry.rows ∧ pane.col ≤ 23 % s.layouts.geometry.cols ∧
      23 % s.layouts.geometry.cols < pane.col + pane.width ∧ pane.row ≤ 23 / s.layouts.geometry.cols ∧
      23 / s.layouts.geometry.cols < pane.row + pane.height :=
  let pane := { source := .stream 0, col := 0, row := 0, width := 6, height := 4, originX := 65535, originY := 0 }
  let post := [{ source := .black, col := 0, row := 0, width := 1, height := 1, originX := 0, originY := 0 }]
  ⟨{ up with layouts := { up.layouts with table := up.layouts.table.set 0 (pane :: post) } }, pane, post, by decide⟩

theorem no_triggers : ∀ k, (running.trigger k).enabled = false := by decide

/-- The kinds of the first clause, each due at the commit of refresh 2, and a ramp before and at its end. -/
theorem witness_CommitAppliesADueCue :
    (∀ kind : CueKind, ∃ (s : State) (c : Cue), s.AtRest ∧ s.wall.state = .running ∧ s.wall.epoch = some 1000 ∧
      1000 + 0 * s.period ≤ s.wall.clock ∧ s.wall.newest = none ∧ s.wall.horizon = 2 ∧ c.due = some 2 ∧ c.kind = kind ∧
      s.cues.list = [c] ∧ c.gate = .none ∧ c.waiting = false ∧ (∀ k, (s.trigger k).enabled = false) ∧
      s.plan.ramp = none) ∧
    ∀ n : Nat, ∃ s : State, s.AtRest ∧ s.wall.state = .running ∧ s.wall.epoch = some 1000 ∧
      1000 + 0 * s.period ≤ s.wall.clock ∧ s.wall.newest = none ∧ s.cues.list = [] ∧
      s.plan.ramp = some { start := 0, fromLevel := 255, target := 0, length := n } :=
  ⟨fun kind => ⟨({ running with cues := { running.cues with list := [cue 1 3000 (some 2) .slip kind] } }).settle,
      cue 1 3000 (some 2) .slip kind, atRest _ rfl, by simp; rfl, by simp; rfl,
      by simp [State.period, periodOf, running], by simp; rfl, by simp; rfl, rfl, rfl, by simp, rfl, rfl,
      fun k => by simp only [State.settle_trigger]; revert k; exact no_triggers, by simp; rfl⟩,
    fun n => rests { running with
      plan := { running.plan with ramp := some { start := 0, fromLevel := 255, target := 0, length := n } } } rfl
      (by simp [State.period, periodOf, running]; exact ⟨rfl, rfl⟩)⟩

/-! ### Witnesses for the invariants and for the cases at the bounds -/

/-- The part RUNNING before boundary 0, with one of everything that names buffer 1: a release in flight, an OPEN record of
refresh 0, and the last-picked frame of S0. Refresh 1 waits for a pick of S0. -/
def sound : State :=
  let r : TileRecord :=
    { pos := 0, source := .stream 0, x := 0, y := 0, buffer := .buffer 1 1 1 2, level := 255, disposition := .opened }
  { running with
    pending := [.boundary 0]
    tiles := running.tiles.modify 0 fun t => { t with depth := some 0, first := some 0 }
    store := { running.store with
      buffers := running.store.buffers.modify 1 fun x => { x with refs := 3 }
      streams := running.store.streams.modify 0 fun x => { x with lastPicked := some 1 } }
    plan := { running.plan with entries :=
      [{ refresh := 0, complete := true, dark := false, level := 255, records := [r], unanswered := [] },
       { refresh := 1, complete := false, dark := false, level := 255, records := [{ r with buffer := .awaiting }],
         unanswered := [0] }] } }

theorem sound_tiles : sound.TilesFit := ⟨by decide +kernel, by decide +kernel, by decide⟩

theorem sound_console : sound.ConsoleFits :=
  ⟨by decide, by decide, by decide, by decide, by decide, by decide, by decide +kernel⟩

theorem sound_store : sound.StoreSound where
  queue st := by revert st; decide +kernel
  queued b := by revert b; decide +kernel
  filling b := by
    have h : ∀ b, (sound.buffer b).state ≠ .filling := by decide +kernel
    exact ⟨fun x => absurd x (h b), fun ⟨p, x⟩ => by cases p <;> cases x⟩
  arriving := by decide
  frame b := by revert b; decide +kernel
  lastPicked st b h := by revert b; revert st; decide +kernel
  bad b := by revert b; decide +kernel
  cause b := by revert b; decide +kernel
  held b := by revert b; decide +kernel
  refs b := by revert b; decide +kernel
  names := by decide +kernel
  fresh b := by revert b; decide +kernel
  limit st := by revert st; decide +kernel
  early := by decide
  links h := by rcases h with h | h <;> exact absurd h (by decide)

theorem sound_plan : sound.PlanSound where
  idle := by decide
  newest := by decide
  consecutive := ⟨0, by decide, by decide⟩
  recent := by decide
  bound := by decide
  complete := by decide
  taken := by decide
  waiting := by decide
  positions := by decide
  opened := by
    refine List.forall_mem_cons.2 ⟨?_, List.forall_mem_cons.2 ⟨?_, by simp⟩⟩ <;> intro r h _ <;>
      rw [List.mem_singleton.1 h] <;> exact ⟨by decide, 0, 0, by decide, by decide, by decide, .inl (by decide)⟩
  picks st n gen target tiles h := by
    have h0 : ∀ i : Fin 8, i ≠ 0 → sound.plan.handoffs.get i = [] := by decide
    by_cases e : st = 0
    · subst e
      cases List.mem_singleton.1 h
      exact ⟨⟨1, rfl, by decide⟩, by decide⟩
    · rw [h0 st e] at h
      cases h
  dispatches := by decide
  order := by decide
  planned := by decide

theorem witness_StepKeepsStoreAndPlanSound :
    ∃ s t : State, s.TilesFit ∧ s.ConsoleFits ∧ s.StoreSound ∧ s.PlanSound ∧ s.NoneAhead ∧ step s = .next t ∧
      s.store.releases = [(1, 1)] ∧ s.plan.entries.map (·.refresh) = [0, 1] :=
  ⟨sound, _, sound_tiles, sound_console, sound_store, sound_plan,
    fun x h => by cases List.mem_singleton.1 h; decide, rfl, rfl, rfl⟩

/-- TESTING with tile 0 in a wrap (log 41). -/
def wrappedTest : State :=
  { up.modTile 0 fun t => { t with wrapped := true } with
    wall := { running.wall with state := .testing }
    console := { up.console with mode := .wrap, target := some 0 } }

theorem witness_StepKeepsTheConsoleInAgreement :
    ∃ s t : State, s.ConsoleFits ∧ step s = .next t ∧ s.wall.state = .testing ∧ s.console.mode = .wrap ∧
      (s.tile 0).wrapped = true :=
  ⟨{ wrappedTest with pending := [.wrapEnd] }, _,
    ⟨by decide, by decide, by decide, by decide, by decide, by decide, by decide +kernel⟩, rfl, rfl, rfl, rfl⟩

theorem witness_PinsFollowPolarityAndPull :
    ∀ (p : Polarity) (q : Pull), ∃ s : State, s.Settled ∧ (s.line 0).config.polarity = p ∧ (s.line 0).config.pull = q :=
  fun p q => ⟨(up.modLine 0 fun x => { x with config := { x.config with polarity := p, pull := q } }).settle,
    (State.settle_quiet _).outputs, by simp only [State.settle_line]; exact ⟨rfl, rfl⟩⟩

theorem witness_StoreLoadEndSetsTheRotations :
    (∃ s : State, s.AtRest ∧ s.startup.phase = .storeLoad ∧ ∀ r, s.claimOf r = none) ∧
    ∃ s : State, s.AtRest ∧ s.startup.phase = .storeLoad ∧ s.arbiter.granted ≠ none :=
  ⟨⟨(starting .storeLoad 0 0).settle, atRest _ rfl, by simp; decide,
      fun r => by rcases r with (_ | _) | _ | _ <;> decide +kernel⟩,
    rests { starting .storeLoad 0 0 with arbiter := { Arbiter.reset with
        granted := some { claimant := .typed, op := .cancel none, answered := true } } } rfl
      (by rw [State.settle_arbiter_granted rfl]; simp; decide)⟩

theorem witness_RateChangeKeepsAWaitOrAWrap :
    ∀ m : ConsoleMode, ∃ s : State, s.AtRest ∧ s.startup.phase = .applying ∧ s.startup.rateChanged = false ∧
      s.startup.passed = 48 ∧ s.startup.select = 3 ∧ s.console.mode = m ∧
      (s.wall.clock / s.period + 1) * s.period ≤ maxClock :=
  fun m => rests { starting .applying 3 48 with console := { Console.reset with mode := m } } rfl (by
      simp [starting, State.period, periodOf, State.reset, WallTiming.reset, Startup.reset, maxClock])

/-- The 120th boundary of a pass, with tile 0's report of refresh 0 still awaited; and a console in a wrap. -/
theorem witness_TestBoundaryCountsALateReport :
    ∀ m : ConsoleMode, ∃ s : State, s.AtRest ∧ s.wall.state = .testing ∧ s.wall.epoch = some 1000 ∧
      1000 + 2 * s.period ≤ s.wall.clock ∧ s.wall.newest = some 1 ∧ s.console.mode = m ∧ s.console.inPass + 1 = 120 ∧
      (s.tile 0).state = .live ∧ (s.tile 0).depth = some 2 ∧ 0 ∈ (s.tile 0).awaiting :=
  fun m => rests
    { up.modTile 0 fun t => { t with awaiting := [0] } with
      wall := { running.wall with state := .testing, newest := some 1, clock := 3000 }
      console := { up.console with mode := m, inPass := 119 } } rfl
    (by simp [State.period, periodOf, running, up, WallTiming.reset]; exact ⟨rfl, rfl, .head _⟩)

theorem witness_NothingIsReceivedInsideAPacket :
    (∃ s : State, s.AtRest ∧ (s.port .a).link = .up ∧ s.store.arrivals.get .a = none) ∧
    ∃ s : State, s.AtRest ∧ (s.port .a).link = .up ∧ s.store.arrivals.get .a ≠ none :=
  ⟨rests up rfl (by simp; decide), rests arriving rfl (by simp; decide)⟩

theorem witness_StartupPostIsPrinted :
    ∀ w : WallState, ∃ s : State, s.AtRest ∧ s.arbiter.granted = some
        { claimant := .startup, op := .post (post (.takeLayout 0) (.time 0) 1), answered := true } ∧
      s.startup.select = 2 ∧ s.wall.state = w :=
  fun w => rests (granting .startup (.post (post (.takeLayout 0) (.time 0) 1))
      { starting .applying 2 48 with wall := { up.wall with state := w } }) rfl (by
        rw [State.settle_arbiter_granted rfl]; simp; exact ⟨rfl, rfl, rfl⟩)

/-- A wrap that ends in TESTING, by Ctrl-D or as its tile's link goes down. -/
theorem witness_AWrapEndsInTesting :
    ∃ s : State, s.AtRest ∧ s.wall.state = .testing ∧ s.console.mode = .wrap ∧ s.console.target = some 0 ∧
      (s.tile 0).wrapped = true ∧ (s.tile 0).state = .live :=
  rests wrappedTest rfl (by simp only [State.settle_wall, State.settle_console, State.settle_tile]; decide)

/-- LAYOUT 15 and 16, WRAP 23 and 24, by the first letter; the other names by their first letter and whole; a word after
a name that takes none; a number that is none; a word that begins no name; and HELP with a trailing blank. -/
theorem witness_LinesAtTheirBounds :
    readLine [0x4C, 0x20, 0x31, 0x35] = .ok (.layout 15) ∧ readLine [0x4C, 0x20, 0x31, 0x36] = .error .range ∧
    readLine [0x57, 0x20, 0x32, 0x33] = .ok (.wrap 23) ∧ readLine [0x57, 0x20, 0x32, 0x34] = .error .range ∧
    readLine [0x52] = .ok .run ∧ readLine [0x53, 0x54, 0x4F, 0x50] = .ok .stop ∧ readLine [0x54] = .ok .test ∧
    readLine [0x4D] = .ok .map ∧ readLine [0x43] = .ok .cues ∧ readLine [0x44, 0x20, 0x31] = .error .what ∧
    readLine [0x4C, 0x20, 0x31, 0x41] = .error .number ∧ readLine [0x4C, 0x20, 0x31, 0x20, 0x31] = .error .what ∧
    readLine [0x52, 0x55, 0x4E, 0x53] = .error .what ∧
    (let line : List Byte := [0x48, 0x45, 0x4C, 0x50, 0x20]
     line.getLast? = some 0x20 ∧ line.dropLast ≠ [] ∧ readLine line.dropLast = .ok .help) :=
  ⟨rfl, rfl, rfl, rfl, rfl, rfl, rfl, rfl, rfl, rfl, rfl, rfl, rfl, by decide, by decide, rfl⟩

/-- The part RUNNING with boundary 0 due and the frame `number` of S0 at the front of its queue. -/
def gated (number : Nat) (cues : List Cue) : State :=
  { running with
    store := { running.store with buffers := running.store.buffers.modify 0 fun x =>
      { x with frame := some (frame number) } }
    cues := { running.cues with list := cues } }

/-- A cue due at the commit of refresh 2 that waits for frame 0 of S0, for `patience` refreshes. -/
def gatedCue (patience : Nat) (onTimeout : OnTimeout) : Cue :=
  { cue 1 3000 (some 2) .slip (.startAdvert 0 1 30 9 .loop) with gate := .ready patience onTimeout }

/-- The gate open with frame 0 queued, closed with frame 3 alone; the patience run out, and one more. -/
theorem witness_ReadyGateOpensWaitsOrRunsOut :
    ∀ (number patience : Nat) (onTimeout : OnTimeout), ∃ s : State, s.AtRest ∧ s.wall.state = .running ∧
      s.wall.epoch = some 1000 ∧ 1000 + 0 * s.period ≤ s.wall.clock ∧ s.wall.newest = none ∧ s.wall.horizon = 2 ∧
      s.cues.list = [gatedCue patience onTimeout] ∧ s.NoTriggers ∧
      s.gateOpen 2 (gatedCue patience onTimeout).kind = decide (number = 0) :=
  fun number patience onTimeout => rests (gated number [gatedCue patience onTimeout]) rfl (by
    refine ⟨by simp; rfl, by simp; rfl, by simp [State.period, periodOf, gated, running], by simp; rfl, by simp; rfl,
      by simp; rfl, fun k => by simp only [State.settle_trigger]; revert k; exact no_triggers, ?_⟩
    simp [State.gateOpen, gatedCue, cue]
    cases number <;> rfl)

/-- Two cues of one stream, and two of two streams, the first of which waits. -/
theorem witness_AnAppliedCueSupersedes :
    ∀ st : StreamId, ∃ (s : State) (w c : Cue), s.AtRest ∧ s.wall.state = .running ∧ s.wall.epoch = some 1000 ∧
      1000 + 0 * s.period ≤ s.wall.clock ∧ s.wall.newest = none ∧ s.wall.horizon = 2 ∧ s.cues.list = [w, c] ∧
      (s.cues.list.map (·.id)).Nodup ∧ s.gateOpen 2 w.kind = false ∧ w.gate = .ready 1 .drop ∧ w.due = some 2 ∧
      c.due = some 2 ∧ c.gate = .none ∧ c.waiting = false ∧ s.NoTriggers ∧ c.kind = .startAdvert st 2 30 9 .loop :=
  fun st => ⟨_, gatedCue 1 .drop, cue 2 3000 (some 2) .slip (.startAdvert st 2 30 9 .loop),
    atRest (gated 3 [gatedCue 1 .drop, cue 2 3000 (some 2) .slip (.startAdvert st 2 30 9 .loop)]) rfl,
    by simp; rfl, by simp; rfl, by simp [State.period, periodOf, gated, running], by simp; rfl, by simp; rfl,
    by simp; rfl, by simp [gated, gatedCue, cue], by simp [State.gateOpen, gatedCue, cue]; rfl, rfl, rfl, rfl, rfl, rfl,
    fun k => by simp only [State.settle_trigger]; revert k; exact no_triggers, rfl⟩

/-- A CONFIGURE WALL body that puts port A in the LOW group. -/
def groupBody : List Byte := [0, 0, 1, 1, 0, 0, 0, 0, 0, 0, 0, 0, 0]

theorem witness_ConfigureWallSetsTheRotations :
    ∃ s : State, s.Takes .a groupBody ∧ s.wall.state = .stopped ∧ (∀ r, s.claimOf r = none) ∧ s.NoTriggers ∧
      (Wire.wallFields groupBody).map (fun f => (State.wallFieldsOk f, f.groups.contains (some 1))) = some (true, true) :=
  takes up .a _ rfl rfl rfl rfl rfl (by decide)
    ⟨by simp; decide, fun r => by rcases r with (_ | _) | _ | _ <;> decide +kernel,
      fun k => by simp; revert k; decide, by decide⟩

/-! ### Worked tables of the manual -/

/-- The periods of table 1.2, and the epochs of the table of R9. -/
theorem test_epochs_of_the_table :
    [50, 60, 100, 120].map periodOf = [1200, 1000, 600, 500] ∧
      [epochAt 1000100 1000, epochAt 1000000 1000, epochAt 999999 1000, epochAt 1000100 1200, epochAt 0 500] =
        [1001000, 1001000, 1000000, 1000800, 500] := by decide

/-- The due refreshes of the table of chapter 1 (epoch 1,001,000 at 60 Hz). -/
theorem test_due_refreshes_of_the_table :
    [1250500, 1251000, 1251001, 1001000, 900000].map (dueOf 1001000 1000) = [250, 250, 251, 0, 0] := by decide

/-- 24 on 60, 25 on 60, 60 on 50 and 120 on 50 of the cadence table (R64). -/
theorem test_cadences_of_the_table :
    (List.range 10).map (fun k => frameNumber k 0 24 60) = [0, 0, 0, 1, 1, 2, 2, 2, 3, 3] ∧
      (List.range 13).map (fun k => frameNumber k 0 25 60) = [0, 0, 0, 1, 1, 2, 2, 2, 3, 3, 4, 4, 5] ∧
      (List.range 6).map (fun k => frameNumber k 0 60 50) = [0, 1, 2, 3, 4, 6] ∧
      (List.range 6).map (fun k => frameNumber k 0 120 50) = [0, 2, 4, 7, 9, 12] := by decide +kernel

/-- The two ramps of the table of R107, from 40 to 200 and back, over six refreshes. -/
theorem test_ramps_of_the_table :
    (List.range 7).map (fun k => (({ Plan.reset with
        ramp := some { start := 100, fromLevel := 40, target := 200, length := 6 } } : Plan).stepRamp (100 + k)).level) =
      [40, 66, 93, 120, 146, 173, 200] ∧
    (List.range 7).map (fun k => (({ Plan.reset with
        ramp := some { start := 100, fromLevel := 200, target := 40, length := 6 } } : Plan).stepRamp (100 + k)).level) =
      [200, 174, 147, 120, 94, 67, 40] := by decide +kernel

/-- The drive levels of the table of R108. -/
theorem test_drive_levels_of_the_table :
    [Plan.driveLevel 120 200, Plan.driveLevel 200 255, Plan.driveLevel 255 127, Plan.driveLevel 255 0,
        Plan.driveLevel 1 254] =
      [94, 200, 127, 0, 0] := by decide

/-- A pane 3 × 2 over gaps of 48 and 40, first with a source large enough and then with one of 5760 × 2160 (chapter 3). -/
theorem test_viewports_of_the_table :
    let g : Geometry := { cols := 6, rows := 4, tileW := 1920, tileH := 1080, gapH := 48, gapV := 40 }
    let p : Pane := { source := .stream 0, col := 0, row := 0, width := 3, height := 2, originX := 0, originY := 0 }
    (g.viewport p 0 8192 8192 8).x = 3936 ∧ (g.viewport p 0 8192 8192 8).y = 1120 ∧
      g.viewport p 0 5760 2160 8 = { source := .stream 0, x := 3840, y := 1080, clamped := true } ∧
      g.viewport p 0 5760 2160 1 = { source := .stream 0, x := 1968, y := 0, clamped := false } := by decide

/-- The first four grants of the table of R24, all requesters waiting: the order after a member takes its turn. -/
theorem test_rotation_of_the_table :
    moveLast (HighMember.requester (.port .a)) Arbiter.reset.high =
      [.requester (.port .b), .lowGroup, .requester (.port .a)] ∧
    moveLast Requester.console Arbiter.reset.low = [.trigger, .console] := by decide

/-- The prefixes of the console's words (R173) and the wire forms of R169. -/
theorem test_console_words :
    readLine [0x4C, 0x41, 0x20, 0x33] = .ok (.layout 3) ∧ readLine [0x57] = .error .number ∧
      readLine [0x57, 0x20, 0x32, 0x34] = .error .range ∧ readLine [0x52, 0x20, 0x31] = .error .what :=
  ⟨rfl, rfl, rfl, rfl⟩

theorem test_numbers_are_sent_low_byte_first : Wire.refresh 0x0102030405 = [5, 4, 3, 2, 1] := by decide

/-! ### One step of each family -/

/-- The part as delivered, once RESET is released. -/
def delivered : State := { State.reset with resetHeld := false }

/-- `linksDown` with a wall that runs, boundary 0 due. -/
def quietRun : State :=
  { linksDown with
    wall := { WallTiming.reset with state := .running, epoch := some 1000, clock := 1000 }
    tiles := (Table.fill 24 Tile.reset).set 0 { Tile.reset with state := .live, linkUp := true, depth := some 2, first := some 0 }
    plan := { Plan.reset with newest := some 1 } }

/-- `quietRun` with an advert of S0. -/
def advertRun : State := { quietRun with adverts := quietRun.adverts.set 0 (some timeline) }

/-- A boundary that is due, after which S0 still has its advert. -/
theorem witness_CommitWritesTheTimeline :
    ∃ s t : State, s.AtRest ∧ exec (.boundary 0) s = .next t ∧ (t.adverts.get 0).isSome = true ∧
      s.wall.state = .running ∧ s.wall.epoch = some 1000 ∧ 1000 + 0 * s.period ≤ s.wall.clock ∧ s.wall.newest = none :=
  ⟨advertRun.settle, after (.boundary 0) advertRun.settle, atRest advertRun rfl, rfl, by decide +kernel,
    by simp only [State.settle_wall, State.settle_period]; decide⟩

/-- R179: the select code is read, and the status lines show the phase. -/
theorem test_release_begins_the_store_load :
    let t := after (.resetRelease 3) State.reset
    t.startup.select = 3 ∧ t.startup.phase = .storeLoad ∧ t.pins.status = 1 ∧ t.resetHeld = false := by decide +kernel

/-- R179: cold reset from any state shows status 0; the store is kept (R183). -/
theorem test_cold_reset :
    let t := after .coldReset { linksDown with startup := { linksDown.startup with
      groups := linksDown.startup.groups.modify 2 fun g => { g with programmed := true } } }
    t.wall = WallTiming.reset ∧ t.pins.status = 0 ∧ (t.group 2).programmed = true := by decide +kernel

/-- R181: with 6 columns and 4 rows every position not masked is DOWN. -/
theorem test_masked_position_stays_off :
    let t := after (.maskShiftInEnd 2) { delivered with startup := { delivered.startup with phase := .maskShift } }
    (t.tile 0).state = .down ∧ (t.tile 1).state = .off ∧ (t.tile 23).state = .down := by decide +kernel

/-- R182: a buffer whose read differed is RETIRED with cause CHECK; 47 pass. -/
theorem test_failed_buffer_is_retired :
    let t := after (.frameStoreCheckEnd 1) { delivered with startup := { delivered.startup with phase := .storeCheck } }
    t.startup.passed = 47 ∧ (t.buffer 0).state = .retired ∧ (t.buffer 0).cause = some .check := by decide +kernel

/-- R6, R187: fewer than 8 buffers passed: HALTED, status E. -/
theorem test_seven_buffers_halt_the_wall :
    let t := after .consoleRateChange (starting .applying 0 7)
    t.wall.state = .halted ∧ t.pins.status = 14 ∧ (t.port .a).link = .held := by decide +kernel

/-- R1: a tick adds 1. -/
theorem test_tick : (after .showTick linksDown).wall.clock = 1 := by decide +kernel

/-- The state table of chapter 1: boundary 0 takes the commit of refresh 2; a tile of depth 2 is sent refresh 2, and a
sync marker with 0. -/
theorem test_boundary_zero :
    let t := after (.boundary 0) quietRun
    t.wall.newest = some 0 ∧ t.plan.newest = some 2 ∧ (t.tile 0).sent.map TileMsg.bytes =
      [[3, 2, 0, 0, 0, 0, 1, 255, 0, 0, 0, 0, 0, 0, 0, 0, 0, 0, 0, 0], [1, 0, 0, 0, 0, 0, 0]] := by decide +kernel

/-- R84: the last-picked frame moves, and the queue is empty after a pick of its only frame at the target. -/
theorem test_pick_takes_the_frame_at_the_target :
    let t := after (.pick 0) linksDown
    (t.stream 0).current = [] ∧ (t.stream 0).lastPicked = some 0 ∧ (t.stream 0).floor = some 3 ∧
      (t.stream 0).lastOutcome = some .fresh ∧ (t.buffer 0).state = .held := by decide +kernel

/-- R84: the answer's buffer, fill number, generation and number are written into the records of the stream's entry. -/
theorem test_pick_writes_the_answer_into_the_records :
    let r : TileRecord :=
      { pos := 0, source := .stream 0, x := 0, y := 0, buffer := .awaiting, level := 0, disposition := .opened }
    let t := after (.pick 0) { linksDown with plan := { linksDown.plan with newest := some 0, entries :=
      [{ refresh := 0, complete := false, dark := false, level := 0, records := [r], unanswered := [0] }] } }
    t.plan.entries.map (fun e => (e.complete, e.records.map (·.buffer))) = [(true, [.buffer 0 1 1 3])] := by decide +kernel

/-- R60, R62: the frames of the former current generation are flushed, also while it is pending. -/
theorem test_displaced_generation_is_flushed :
    let fs := (up.store.modStream 0 fun x => { x with pendingGen := some 1 }).setCurrent 0 2 9 .loop
    fs.queue 0 = [] ∧ (fs.stream 0).counts.flushed = 1 ∧ (fs.buf 0).state = .free := by decide +kernel

/-- R86: a release of the fill named drops one reference. -/
theorem test_release_drops_a_reference : ((after (.release 1 1) linksDown).buffer 1).refs = 1 := by decide +kernel

/-- R80: 4 is above 3, so the frame is queued behind it; accepted +1. -/
theorem test_arrival_is_queued_in_order :
    let t := after (.frameArrivalEnd .a [1, 2, 3]) arriving
    (t.stream 0).current = [0, 2] ∧ (t.buffer 2).state = .queued ∧ (t.stream 0).counts.accepted = 1 := by decide +kernel

/-- R79: a packet for a local stream above 3 is a stray. -/
theorem test_stray_packet_is_counted :
    ((after (.framePacket .b 4 0 0 1 1) up).port .b).stray = 1 := by decide +kernel

/-- R170: a message of unknown type closes the link with cause PROTOCOL. -/
theorem test_unframeable_message :
    let t := after (.unframeableMessage .b 0x03) up
    (t.port .b).link = .down ∧ (t.port .b).cause = some .protocol := by decide +kernel

/-- R157: the link comes UP with an empty pending set. -/
theorem test_link_up : ((after (.linkUp .a) linksDown).port .a).link = .up := by decide +kernel

/-- R159: a POST CUE waits for its grant, and is granted at once when the arbiter is free. -/
theorem test_post_is_granted_at_once :
    ((after (.postCue .b 9 [3, 0, 0, 0, 0, 0, 0, 0, 0, 0]) up).arbiter.granted).map (·.claimant) = some (.port .b) := by
  decide +kernel

/-- R161: kind FFh is no request: refused RANGE with its own kind and tag. -/
theorem test_unknown_kind_is_refused_range :
    ((after (.readClock .b 0xFF 0x0102 []) up).port .b).outbox.head?.map PortMsg.bytes =
      some [0x81, 0xFF, 0x02, 0x01, 0x84, 0, 0] := by decide +kernel

/-- R2: READ CLOCK. The clock is 0, the wall STOPPED (02h), the rate 60, the period 1000 (03E8h), the horizon 2. -/
theorem test_read_clock :
    ((after (.readClock .b 0x01 7 []) up).port .b).outbox.head? =
      some (.response 0x01 7 .done [0, 0, 0, 0, 0, 0, 0, 2, 60, 0xE8, 3, 2, 0, 0, 0]) := by decide +kernel

/-- R3: while STOPPED the clock is written. -/
theorem test_set_clock : (after (.setClock .b 0 [0, 0, 0, 0, 0, 1]) up).wall.clock = 2 ^ 40 := by decide +kernel

/-- R4: 50 Hz. -/
theorem test_configure_wall : (after (.configureWall .b 0 (rateBody 50)) up).wall.rate = 50 := by decide +kernel

/-- R9: RUN at show time 0 sets E to 1000; the readable K is H − 1 (R13). -/
theorem test_run :
    let t := after (.run .b 0 []) up
    t.wall.epoch = some 1000 ∧ t.wall.state = .running ∧ t.plan.newest = some 1 ∧ t.plan.entries.length = 2 := by
  decide +kernel

/-- R14, R15. -/
theorem test_stop_and_wipe :
    (after (.stop .b 0 []) running).wall.state = .stopped ∧ (after (.stop .b 0 []) running).wall.epoch = none ∧
      ((after (.wipe .b 0 []) up).store.streams.get 0).current = [] := by decide +kernel

/-- R36: the hold lapses, and HOLD is raised at the former holder. -/
theorem test_hold_lapse :
    let t := after .holdLapse { up with cues := { up.cues with hold := some { holder := .a, lapse := 0 } } }
    t.cues.hold = none ∧ (t.port .a).notices = 0x20 ∧ t.pins.notice.a = true := by decide +kernel

/-- R31: the cue is retired CANCELLED, with no refresh while STOPPED. -/
theorem test_cancel :
    let t := after .cancelComplete (cancelling (some 1) up)
    t.cues.list.map (·.id) = [2] ∧ t.cues.history.getLast?.map (fun e => (e.outcome, e.refresh)) =
      some (.cancelled, none) := by decide +kernel

/-- R30: the first insertion takes id 1 and sequence 1. -/
theorem test_admission :
    (after .admissionComplete (granting .typed (.post (post .goDark (.time 500) 0)) linksDown)).cues.list.map
      (fun c => (c.id, c.seq, c.time)) = [(1, 1, 500)] := by decide +kernel

/-- R38: a port that holds nothing is refused OWNER. -/
theorem test_release_hold_of_another :
    ((after (.releaseHold .b 3 []) { up with cues := { up.cues with hold := some { holder := .a, lapse := 5 } } }).port
      .b).outbox.head?.map (fun m => match m with | .response k t c _ => (k, t, c) | _ => (0, 0, .done)) =
      some (0x14, 3, .owner) := by decide +kernel

/-- R47: layout 15 gets two BLACK panes. -/
theorem test_define_layout :
    ((after (.defineLayout .b 0 (layoutBody 15 2)) up).layouts.table.get 15).length = 2 := by decide +kernel

/-- R163: stream 0 is no stream of port B (86h). -/
theorem test_stream_of_the_other_port :
    ((after (.configureStream .b 0 [0, 0, 0, 0, 0, 0]) up).port .b).outbox.head?.map PortMsg.bytes =
      some [0x81, 0x28, 0, 0, 0x86, 0, 0] := by decide +kernel

/-- R88: the buffer is bad and no longer last-picked, and the failure is counted and captured. -/
theorem test_integrity_failure :
    let t := after (.integrityFailure 0) sending
    (t.buffer 1).bad = true ∧ t.store.failures = 1 ∧ t.store.capture.isSome = true ∧ t.triggers.error.flag = true := by
  decide +kernel

/-- R117, R118: the tile trains for 60,000 ticks, and a hello of depth 3 against H = 2 faults it DEPTH. -/
theorem test_tile_training :
    let t := after (.tileLinkUp 1) linksDown
    (t.tile 1).state = .training ∧ (t.tile 1).training = some 60000 ∧ (t.tile 1).sent = [.trainingRequest] ∧
      ((after (.hello 1 3) t).tile 1).reason = some .depth ∧ ((after (.hello 1 2) t).tile 1).state = .live := by
  decide +kernel

/-- R127: the third miss in a row faults the tile MISSES; R125: an on-time report ends the run of misses. -/
theorem test_reports :
    ((after (.report 0 0 false) (awaiting .running 2)).tile 0).reason = some .misses ∧
      ((after (.report 0 0 true) (awaiting .running 2)).tile 0).missRun = 0 := by decide +kernel

/-- R120, R171: a link that goes down, and a message the tile may not send. -/
theorem test_tile_down :
    ((after (.tileLinkDown 3) up).tile 3).state = .down ∧ ((after (.tileUnknownMessage 3 0) up).tile 3).linkUp = false := by
  decide +kernel

/-- R134: a raw change starts the debounce count of 600; its end settles the line. -/
theorem test_debounce :
    ((after (.rawLevelChange 3 false) linksDown).line 3).debounceCount = some 600 ∧
      ((after (.debounceEnd 0) linksDown).line 0).settled = true ∧ ((after (.debounceEnd 0) linksDown).line 0).rises = 1 := by
  decide +kernel

/-- R139: a timer that does not repeat stops at its expiry. -/
theorem test_timer_expiry :
    let t := after (.timerExpiry 0) linksDown
    (t.triggers.timers.get 0).running = false ∧ (t.triggers.timers.get 0).expiries = 1 := by decide +kernel

/-- R140: timer 1 starts from 258. -/
theorem test_start_timer :
    ((after (.startTimer .b 0 [1, 2, 1, 0, 0, 1]) up).triggers.timers.get 1) =
      { running := true, count := 258, start := 258, rep := true, expiries := 0, starter := some (.port .b) } := by
  decide +kernel

/-- R150: trigger 0 is enabled; R152: it is fired. -/
theorem test_triggers :
    ((after (.enableTriggers .b 0 [1]) up).trigger 0).enabled = true ∧
      ((after (.fireTriggers .b 0 [1]) (armed .none none .empty up)).trigger 0).fires = 1 := by decide +kernel

/-- R41, R102: an admission's pending generation passes a change of generation that waits behind a pick, and the older
pending generation behind it is dropped (log 63); the one an applied START ADVERT leaves waits. -/
theorem test_pending_generations :
    let advert := fun gen : Nat => cue 1 5 (some 2) .slip (.startAdvert 0 gen 30 9 .loop)
    let s := { up with plan := { up.plan with
      handoffs := up.plan.handoffs.set 0 [.pick 0 1 5 1, .setCurrent 3 4 .loop, .setPending (some 4)] } }
    let t := after .admissionComplete
      (granting (.port .a) (.post (post (.startAdvert 0 9 30 9 0) (.time 5) 0)) s)
    let u := ({ up with cues := { up.cues with
      list := [advert 7], pendingGen := up.cues.pendingGen.set 0 (some 7) } } : State).applyCue 2 255 (advert 7) .applied
    t.plan.handoffs.get 0 = [.pick 0 1 5 1, .setCurrent 3 4 .loop] ∧ (t.stream 0).pendingGen = some 9 ∧
      u.plan.handoffs.get 0 = [.pick 0 1 5 1, .setCurrent 7 9 .loop, .setPending none] := by decide +kernel

/-- R21: the list is renumbered in its order when next sequence would pass 2^32−1. -/
theorem test_renumbering :
    let s := { up with cues := { up.cues with
      list := [cue 7 5 none .slip .wake, cue 9 9 none .slip .wake], nextSeq := 2 ^ 32 - 1 } }
    let q := (after .admissionComplete (granting .typed (.post (post .goDark (.time 5) 0)) s)).cues
    q.list.map (fun c => (c.id, c.seq)) = [(7, 1), (1, 2), (9, 3)] ∧ q.nextSeq = 4 := by decide +kernel

/-- R167: the set read is cleared, and the mask keeps what remains from the line. -/
theorem test_notices :
    let s := { up with ports := { up.ports with b := { up.ports.b with notices := 5 } } }
    ((after (.readNotices .b 0 []) s).port .b).notices = 0 ∧
      (after (.setNoticeMask .b 0 [0xFA]) s).pins.notice.b = false := by decide +kernel

/-- R185: staging needs select code 7; a programming sets the programmed flag at its end. -/
theorem test_store :
    ((after (.stageStore .b 0 [8, 0, 4]) up).port .b).outbox.head?.map PortMsg.bytes =
        some [0x81, 0x58, 0, 0, 0x80, 0, 0] ∧
      ((after .programmingEnd programmed).group 1).programmed = true := by decide +kernel

/-- R172: a lower case letter is stored and echoed in upper case; R176: Ctrl-C ends TEST. -/
theorem test_console_characters :
    (after (.consoleCharacter 0x61) linksDown).console.line = [0x41] ∧
      (after (.consoleCharacter 0x61) linksDown).console.printed = [.echo 0x41] ∧
      (after (.consoleCharacter 3) (typing .test [] { linksDown with wall := { linksDown.wall with
        state := .testing, epoch := some 1000 } })).wall.state = .stopped := by decide +kernel

/-- R175, R177: RUN prints E; WRAP of a position that is OFF prints NOT UP. -/
theorem test_console_commands :
    (after .consoleRun linksDown).console.printed = [.runAt 1000, .prompt] ∧
      (after (.wrap 4) linksDown).console.printed = [.notUp, .prompt] ∧
      (after (.wrap 2) linksDown).console.target = some 2 ∧ (after .test linksDown).wall.state = .testing := by
  decide +kernel

/-- R130: a byte of a tile not wrapped is dropped and counted. -/
theorem test_service_bytes : ((after (.serviceBytes 2 [1, 2]) linksDown).tile 2).totals.serviceDropped = 2 := by
  decide +kernel

/-- R170: no message is received inside a frame packet. -/
theorem test_message_inside_a_packet_is_not_received :
    ((after (.readClock .a 0x01 0 []) arriving).port .a).outbox = (arriving.settle.port .a).outbox := by decide +kernel

/-- R172: Ctrl-D stands between a carriage return in WRAP and a line feed at the prompt. -/
theorem test_line_feed_after_a_wrap_ends_a_line :
    (after .wrapEnd { wrappedTest with console := { wrappedTest.console with afterReturn := true } }).console.afterReturn =
      false := by decide +kernel

end Sys2Proof.Tests
end

section
/-! PROOFS. The id an admission gives (R20): how ids follow each other, why 97 of them hold a free one, what an insertion
does to the list, and what judging a post can do to the state. -/

namespace Sys2Proof.Machine

/-! ### The list (R21) -/

theorem insertCue_perm (running : Bool) (c : Cue) (cs : List Cue) : (insertCue running c cs).Perm (c :: cs) := by
  induction cs with
  | nil => exact .refl _
  | cons d ds ih =>
    unfold insertCue
    split
    · exact (ih.cons d).trans (.swap c d ds)
    · exact .refl _

namespace CueStore

@[simp] theorem map_id_renumber (n : Nat) (cs : List Cue) : (renumber n cs).map (·.id) = cs.map (·.id) := by
  induction cs generalizing n with
  | nil => rfl
  | cons c cs ih => exact congrArg (c.id :: ·) (ih (n + 1))

/-! ### How ids follow each other (R20) -/

/-- Steps taken one at a time from the front: the model's search begins at its first id. -/
theorem repeat_idAfter_succ (k id : Nat) : Nat.repeat idAfter (k + 1) id = Nat.repeat idAfter k (idAfter id) := by
  induction k with
  | zero => rfl
  | succ k ih => exact congrArg idAfter ih

/-- The ids run round the cycle 1 to 65535. -/
theorem repeat_idAfter {id : Nat} (h1 : 1 ≤ id) (h2 : id ≤ 65535) (i : Nat) :
    Nat.repeat idAfter i id = (id - 1 + i) % 65535 + 1 := by
  induction i with
  | zero => rw [Nat.repeat]; omega
  | succ i ih =>
    rw [Nat.repeat, ih, idAfter]
    split <;> omega

theorem repeat_idAfter_mem_range {id : Nat} (h1 : 1 ≤ id) (h2 : id ≤ 65535) (i : Nat) :
    1 ≤ Nat.repeat idAfter i id ∧ Nat.repeat idAfter i id ≤ 65535 := by
  rw [repeat_idAfter h1 h2]
  omega

/-- The ids of fewer steps than the cycle is long are all different. -/
theorem repeat_idAfter_inj {id i j : Nat} (h1 : 1 ≤ id) (h2 : id ≤ 65535) (hi : i < 65535) (hj : j < 65535)
    (h : Nat.repeat idAfter i id = Nat.repeat idAfter j id) : i = j := by
  rw [repeat_idAfter h1 h2, repeat_idAfter h1 h2] at h
  omega

/-- A step function that agrees with `idAfter` on the ids 1 to 65535 gives the same ids. -/
theorem repeat_eq_repeat_idAfter {next : Nat → Nat} (hnext : ∀ i, i ≤ 65535 → next i = idAfter i) {id : Nat}
    (h1 : 1 ≤ id) (h2 : id ≤ 65535) (i : Nat) : Nat.repeat next i id = Nat.repeat idAfter i id := by
  induction i with
  | zero => rfl
  | succ i ih =>
    rw [Nat.repeat, Nat.repeat, ih]
    exact hnext _ (repeat_idAfter_mem_range h1 h2 i).2

/-- The `n` ids from `id` on. -/
def idsFrom (id n : Nat) : List Nat := (List.range n).map fun i => Nat.repeat idAfter i id

theorem length_idsFrom (id n : Nat) : (idsFrom id n).length = n := by
  rw [idsFrom, List.length_map, List.length_range]

theorem idsFrom_nodup {id n : Nat} (h1 : 1 ≤ id) (h2 : id ≤ 65535) (hn : n ≤ 65535) : (idsFrom id n).Nodup := by
  refine List.pairwise_map.mpr (List.nodup_range.imp_of_mem fun {i j} hi hj hne heq => hne ?_)
  have hi : i < n := List.mem_range.mp hi
  have hj : j < n := List.mem_range.mp hj
  exact repeat_idAfter_inj h1 h2 (by omega) (by omega) heq

/-! ### The search for a free id (R20) -/

variable (q : CueStore)

/-- The ids the list and the history hold. -/
def heldIds : List Nat := q.list.map (·.id) ++ q.history.map (·.id)

theorem idUsed_iff (id : Nat) : q.idUsed id = true ↔ id ∈ q.heldIds := by
  simp only [idUsed, heldIds, Bool.or_eq_true, List.any_eq_true, beq_iff_eq, List.mem_append, List.mem_map]

theorem length_heldIds : q.heldIds.length = q.list.length + q.history.length := by
  rw [heldIds, List.length_append, List.length_map, List.length_map]

/-- More ids in a row than the list and the history hold cannot all be used: they are all different. -/
theorem exists_free_id {id n : Nat} (h1 : 1 ≤ id) (h2 : id ≤ 65535) (hn : n ≤ 65535)
    (hlen : q.list.length + q.history.length < n) : ∃ i, i < n ∧ q.idUsed (Nat.repeat idAfter i id) = false := by
  refine Classical.byContradiction fun hall => ?_
  have hheld : idsFrom id n ⊆ q.heldIds := by
    intro x hx
    obtain ⟨i, hi, rfl⟩ := List.mem_map.mp hx
    refine (q.idUsed_iff _).mp (Bool.of_not_eq_false fun hfree => ?_)
    exact hall ⟨i, List.mem_range.mp hi, hfree⟩
  have hle := (idsFrom_nodup h1 h2 hn).length_le_of_subset hheld
  rw [length_idsFrom, length_heldIds] at hle
  omega

/-- The search passes the used ids and stops at the first free one, when there is one within its fuel. -/
theorem findId_first_free {fuel id : Nat} (hex : ∃ i, i < fuel ∧ q.idUsed (Nat.repeat idAfter i id) = false) :
    ∃ k, k < fuel ∧ q.findId fuel id = Nat.repeat idAfter k id ∧ q.idUsed (Nat.repeat idAfter k id) = false ∧
      ∀ i, i < k → q.idUsed (Nat.repeat idAfter i id) = true := by
  induction fuel generalizing id with
  | zero =>
    obtain ⟨i, hi, -⟩ := hex
    exact absurd hi (Nat.not_lt_zero i)
  | succ fuel ih =>
    cases hid : q.idUsed id with
    | false => exact ⟨0, Nat.succ_pos fuel, if_neg (by rw [hid]; exact Bool.false_ne_true), hid, nofun⟩
    | true =>
      have hlater : ∃ i, i < fuel ∧ q.idUsed (Nat.repeat idAfter i (idAfter id)) = false := by
        obtain ⟨i, hi, hfree⟩ := hex
        cases i with
        | zero => exact absurd (hid.symm.trans hfree) (Bool.false_ne_true ·.symm)
        | succ i => exact ⟨i, by omega, by rw [← repeat_idAfter_succ]; exact hfree⟩
      obtain ⟨k, hk, hfind, hfree, hused⟩ := ih hlater
      refine ⟨k + 1, by omega, ?_, by rw [repeat_idAfter_succ]; exact hfree, fun i hi => ?_⟩
      · rw [findId, if_pos hid, hfind, repeat_idAfter_succ]
      · cases i with
        | zero => exact hid
        | succ i => rw [repeat_idAfter_succ]; exact hused i (by omega)

/-! ### The insertion (R20, R21) -/

section Insert

variable (running : Bool) (make : Nat → Nat → Cue)

@[simp] theorem insert_cue : (q.insert running make).2 = make (q.findId 97 q.nextId) q.nextSeq := by
  unfold insert
  dsimp only
  split <;> rfl

@[simp] theorem insert_nextId : (q.insert running make).1.nextId = idAfter (q.findId 97 q.nextId) := by
  unfold insert
  dsimp only
  split <;> rfl

@[simp] theorem insert_history : (q.insert running make).1.history = q.history := by
  unfold insert
  dsimp only
  split <;> rfl

/-- The list holds the ids it held and the new cue's, renumbered or not. -/
theorem map_id_insert_perm :
    ((q.insert running make).1.list.map (·.id)).Perm
      ((make (q.findId 97 q.nextId) q.nextSeq).id :: q.list.map (·.id)) := by
  have hperm := (insertCue_perm running (make (q.findId 97 q.nextId) q.nextSeq) q.list).map (·.id)
  unfold insert
  dsimp only
  split
  · rw [map_id_renumber]
    exact hperm
  · exact hperm

theorem length_list_insert : (q.insert running make).1.list.length = q.list.length + 1 := by
  simpa only [List.length_map, List.length_cons] using (q.map_id_insert_perm running make).length_eq

theorem exists_mem_insert :
    ∃ c ∈ (q.insert running make).1.list, c.id = (make (q.findId 97 q.nextId) q.nextSeq).id :=
  List.mem_map.mp ((q.map_id_insert_perm running make).mem_iff.mpr List.mem_cons_self)

end Insert

end CueStore

/-! ### The judging of a post (R26 to R29) -/

/-- The cue a checked post becomes. -/
def CheckedPost.cue (post : CheckedPost) (o : Owner) (time : Nat) (due : Option Nat) (id seq : Nat) : Cue :=
  { id := id, owner := o, kind := post.kind, time := time, due := due, late := post.late, gate := post.gate,
    waiting := false, seq := seq }

namespace State

variable (s : State)

@[simp] theorem handPending_cues (st : StreamId) (gen : Option Nat) : (s.handPending st gen).cues = s.cues := rfl

/-- Recomputing a pending generation changes nothing of the cues but that generation. -/
theorem recomputePending_cues (st : StreamId) :
    (s.recomputePending st).cues =
      { s.cues with pendingGen := (s.recomputePending st).cues.pendingGen } := by
  unfold recomputePending recomputeBy
  dsimp only
  split
  · rfl
  · rfl

/-- The state after a checked post is inserted. -/
def insertPost (o : Owner) (post : CheckedPost) (time : Nat) (due : Option Nat) : State :=
  let (q, cue) := s.cues.insert s.wallRuns (post.cue o time due)
  match cue.advert with
  | some (st, _) => { s with cues := q }.recomputePending st
  | none => { s with cues := q }

theorem insertPost_cues (o : Owner) (post : CheckedPost) (time : Nat) (due : Option Nat) :
    (s.insertPost o post time due).cues =
      { (s.cues.insert s.wallRuns (post.cue o time due)).1 with
        pendingGen := (s.insertPost o post time due).cues.pendingGen } := by
  unfold insertPost
  dsimp only
  split
  · exact recomputePending_cues _ _
  · rfl

/-- What judging a post can answer: the post passed every check and was inserted, or it is refused and the state is as it
was. -/
inductive Judged (o : Owner) (raw : RawPost) : State × PostOutcome → Prop
  | inserted {post : CheckedPost} {time : Nat} {due : Option Nat} {slipped : Bool}
      (hopen : s.postsClosed = false)
      (hform : s.wall.state = .stopped → ∀ n, raw.due ≠ some (.next n))
      (hfree : s.heldAgainst o = none)
      (hpost : checkPost raw = some post)
      (hknown : s.unknownReference post.kind = false)
      (hroom : s.cues.list.length < 64)
      (hdue : s.fixDue post.due post.late = .ok (time, due, slipped)) :
      Judged o raw (s.insertPost o post time due,
        .inserted post.clampRamp post.clampGate slipped (s.cues.findId 97 s.cues.nextId) time due)
  | refused {r : PostOutcome}
      (hr : ∀ clampRamp clampGate slipped id time due, r ≠ .inserted clampRamp clampGate slipped id time due) :
      Judged o raw (s, r)

theorem judgePost_judged (o : Owner) (raw : RawPost) : s.Judged o raw (s.judgePost o raw) := by
  unfold judgePost
  refine iteInduction (fun _ => .refused nofun) fun hopen => ?_
  refine iteInduction (fun _ => .refused nofun) fun hform => ?_
  split
  · exact .refused nofun
  next hfree =>
  split
  · exact .refused nofun
  next post hpost =>
  refine iteInduction (fun _ => .refused nofun) fun hknown => ?_
  refine iteInduction (fun _ => .refused nofun) fun hroom => ?_
  split
  · exact .refused nofun
  next time due slipped hdue =>
  have hnext : s.wall.state = .stopped → ∀ n, raw.due ≠ some (.next n) := by
    intro hstopped n hraw
    exact hform (by rw [hstopped, hraw]; rfl)
  have hinserted := Judged.inserted (Bool.eq_false_iff.mpr hopen) hnext hfree hpost (Bool.eq_false_iff.mpr hknown)
    (Nat.lt_of_not_le hroom) hdue
  have hid : (s.cues.insert s.wallRuns (post.cue o time due)).2.id = s.cues.findId 97 s.cues.nextId := by
    rw [CueStore.insert_cue]
    rfl
  rw [← hid] at hinserted
  exact hinserted

end State

/-- Settles O50: an inserted post takes the id `findId` answers, which is the first free one, since 97 ids in a row are
all different and at most 96 are held. -/
theorem admissionGivesAFreshId : Obligations.AdmissionGivesAFreshId := by
  intro s o raw hlen h1 h2 next used
  have hnext : ∀ i, i ≤ 65535 → next i = CueStore.idAfter i := by
    intro i hi
    simp only [next, CueStore.idAfter]
    split <;> split <;> omega
  have hjudged := s.judgePost_judged o raw
  generalize s.judgePost o raw = answer at hjudged ⊢
  cases hjudged with
  | inserted =>
    have hex := s.cues.exists_free_id h1 h2 (n := 97) (by omega) (by omega)
    obtain ⟨k, hk, hid, hfree, hused⟩ := s.cues.findId_first_free hex
    obtain ⟨hpos, hle⟩ := CueStore.repeat_idAfter_mem_range h1 h2 k
    have hrep := CueStore.repeat_eq_repeat_idAfter hnext h1 h2
    refine .inl ⟨_, _, _, _, _, _, rfl, ?_⟩
    rw [State.insertPost_cues, hid]
    refine ⟨hpos, hle, hfree, ⟨k, hk, (hrep k).symm, fun i hi => by rw [hrep]; exact hused i hi⟩, ?_, ?_, ?_, ?_⟩
    · rw [hnext _ hle, ← hid]
      exact s.cues.insert_nextId _ _
    · exact s.cues.insert_history _ _
    · rw [← hid]
      exact s.cues.exists_mem_insert _ _
    · exact s.cues.length_list_insert _ _
  | refused hr => exact .inr ⟨hr, rfl⟩

end Sys2Proof.Machine
end

section
/-! PROOFS. The origin a TAKE gives a position (R51): one axis of a viewport, the pane of a layout that counts, and the
origin on its way through the tile record to the dispatch. -/

namespace Sys2Proof.Machine

/-! ### One axis of a viewport (R51) -/

/-- An origin on one axis, clamped so that a tile at it stays inside the picture (R51, step 2). -/
def clampOrigin (picture tile u : Nat) : Nat := min u (max 0 (picture - tile))

section Axis
variable {picture tile u : Nat}

theorem clampOrigin_eq_min (picture tile u : Nat) : clampOrigin picture tile u = min u (picture - tile) := by
  rw [clampOrigin, Nat.zero_max]

theorem clampOrigin_le (picture tile u : Nat) : clampOrigin picture tile u ≤ u := Nat.min_le_left _ _

theorem clampOrigin_add_tile_le (h : tile ≤ picture) : clampOrigin picture tile u + tile ≤ picture := by
  rw [clampOrigin_eq_min]
  omega

theorem clampOrigin_eq_zero (h : picture < tile) : clampOrigin picture tile u = 0 := by
  rw [clampOrigin_eq_min]
  omega

/-- The largest picture holds the largest origin: 8191, under a tile of 1. -/
theorem clampOrigin_le_8191 (hpicture : picture ≤ 8192) (htile : 1 ≤ tile) : clampOrigin picture tile u ≤ 8191 := by
  rw [clampOrigin_eq_min]
  omega

/-- How far an origin gets before it is clamped, `d` tiles into its pane, with every setting inside its range (R43,
R46). -/
theorem origin_add_tiles_le {origin gap d dmax : Nat} (horigin : origin ≤ 65535) (hd : d ≤ dmax) (htile : tile ≤ 8192)
    (hgap : gap ≤ 255) : origin + d * (tile + gap) ≤ 65535 + dmax * 8447 :=
  Nat.add_le_add horigin (Nat.mul_le_mul hd (by omega))

end Axis

namespace Geometry

variable {g : Geometry} {p : Pane} {j : Nat}

theorem isPosition_iff : g.isPosition j = true ↔ j < g.cols * g.rows := decide_eq_true_iff

theorem inPane_iff : g.inPane p j = true ↔
    p.col ≤ j % g.cols ∧ j % g.cols < p.col + p.width ∧ p.row ≤ j / g.cols ∧ j / g.cols < p.row + p.height := by
  simp only [inPane, Bool.and_eq_true, decide_eq_true_iff, and_assoc]
  rfl

/-- A clamp only lowers an origin, so the flag says that an axis changed. -/
theorem viewport_eq (g : Geometry) (p : Pane) (st : StreamId) (w h j : Nat) :
    let u := g.unclamped p j
    let x := clampOrigin w g.tileW u.1
    let y := clampOrigin h g.tileH u.2
    g.viewport p st w h j = { source := .stream st, x := x, y := y, clamped := decide (x ≠ u.1 ∨ y ≠ u.2) } := by
  intro u x y
  have hx : x ≠ u.1 ↔ x < u.1 := (Nat.lt_iff_le_and_ne.trans (and_iff_right (clampOrigin_le ..))).symm
  have hy : y ≠ u.2 ↔ y < u.2 := (Nat.lt_iff_le_and_ne.trans (and_iff_right (clampOrigin_le ..))).symm
  simp only [hx, hy, Bool.decide_or]
  simp only [viewport, x, y, u, clampOrigin_eq_min]

/-- Column and row of an existing position lie inside the largest wall, so its pane's origin is bounded. -/
theorem unclamped_le (hj : j < g.cols * g.rows) (hcols : g.cols ≤ 8) (hrows : g.rows ≤ 6) (htileW : g.tileW ≤ 8192)
    (hgapH : g.gapH ≤ 255) (htileH : g.tileH ≤ 8192) (hgapV : g.gapV ≤ 255) (hx : p.originX ≤ 65535)
    (hy : p.originY ≤ 65535) : (g.unclamped p j).1 ≤ 124664 ∧ (g.unclamped p j).2 ≤ 107770 := by
  have hcolsPos : 0 < g.cols := Nat.pos_of_mul_pos_right (Nat.zero_lt_of_lt hj)
  have hcol : j % g.cols < g.cols := Nat.mod_lt _ hcolsPos
  have hrow : j / g.cols < g.rows := Nat.div_lt_of_lt_mul hj
  have hdc : g.colOf j - p.col ≤ 7 := by rw [colOf]; omega
  have hdr : g.rowOf j - p.row ≤ 5 := by rw [rowOf]; omega
  exact ⟨origin_add_tiles_le hx hdc htileW hgapH, origin_add_tiles_le hy hdr htileH hgapV⟩

end Geometry

/-! ### Of several panes the last counts (R54) -/

namespace LayoutStore

variable (fs : FrameStore) (b : LayoutStore)

@[simp] theorem applyPane_geometry (p : Pane) : (applyPane fs b p).geometry = b.geometry := rfl

theorem applyPane_map_get (p : Pane) (j : TileId) : (applyPane fs b p).map.get j =
    if b.geometry.isPosition j.val && b.geometry.inPane p j.val then b.paneEntry fs p j.val else b.map.get j :=
  Table.get_ofFn _ _

@[simp] theorem foldl_applyPane_geometry (ps : List Pane) : (ps.foldl (applyPane fs) b).geometry = b.geometry := by
  induction ps generalizing b with
  | nil => rfl
  | cons p ps ih => exact ih (applyPane fs b p)

/-- A position that none of the panes covers keeps its entry. -/
theorem foldl_applyPane_map_get_of_not_inPane {ps : List Pane} {j : TileId}
    (h : ∀ q ∈ ps, b.geometry.inPane q j.val = false) : (ps.foldl (applyPane fs) b).map.get j = b.map.get j := by
  induction ps generalizing b with
  | nil => rfl
  | cons p ps ih =>
    obtain ⟨hp, hps⟩ := List.forall_mem_cons.mp h
    calc ((p :: ps).foldl (applyPane fs) b).map.get j
        = (applyPane fs b p).map.get j := ih (applyPane fs b p) hps
      _ = b.map.get j := by simp [applyPane_map_get, hp]

theorem paneEntry_congr {b b' : LayoutStore} (h : b'.geometry = b.geometry) (p : Pane) (j : Nat) :
    b'.paneEntry fs p j = b.paneEntry fs p j := by
  simp only [paneEntry, h]

theorem paneEntry_of_configured {p : Pane} {st : StreamId} (hsource : p.source = .stream st)
    (hw : 0 < (fs.stream st).config.width) (hh : 0 < (fs.stream st).config.height) (j : Nat) :
    b.paneEntry fs p j =
      b.geometry.viewport p st (fs.stream st).config.width (fs.stream st).config.height j := by
  simp [paneEntry, hsource, StreamConfig.configured, hw, hh]

/-- The entry a TAKE leaves at a position is that of the last pane of the layout that covers it. -/
theorem take_map_get_of_last_pane {l : LayoutId} (n : Nat) {pre post : List Pane} {p : Pane} {j : TileId}
    (htable : b.table.get l = pre ++ p :: post) (hpost : ∀ q ∈ post, b.geometry.inPane q j.val = false)
    (hpos : b.geometry.isPosition j.val = true) (hin : b.geometry.inPane p j.val = true) :
    (take fs l n b).map.get j = b.paneEntry fs p j.val := by
  have hgeometry : (pre.foldl (applyPane fs) b).geometry = b.geometry := foldl_applyPane_geometry fs b pre
  calc (take fs l n b).map.get j
      = (post.foldl (applyPane fs) (applyPane fs (pre.foldl (applyPane fs) b) p)).map.get j := by
        rw [take, htable, List.foldl_append, List.foldl_cons]
    _ = (applyPane fs (pre.foldl (applyPane fs) b) p).map.get j :=
        foldl_applyPane_map_get_of_not_inPane fs _ (by rwa [applyPane_geometry, hgeometry])
    _ = (pre.foldl (applyPane fs) b).paneEntry fs p j.val := by
        rw [applyPane_map_get, hgeometry, hpos, hin, Bool.and_self, if_pos rfl]
    _ = b.paneEntry fs p j.val := paneEntry_congr fs hgeometry p j.val

end LayoutStore

/-! ### From the record to the tile (R101, R171) -/

/-- Whatever the tile is shown, a picture or BLACK, the dispatch carries the level and the origin of its record. -/
theorem State.dispatchHeader_record (s : State) (j : TileId) (n : Nat) (r : TileRecord) :
    ∃ content w h dataW dataH data,
      (s.dispatchHeader j n (.record r)).1 = .dispatch n content r.level r.x r.y w h dataW dataH data := by
  simp only [State.dispatchHeader]
  split
  next b _ _ _ =>
    split
    next f _ _ => exact ⟨.picture, f.width, f.height, _, _, _, rfl⟩
    next => exact ⟨.black, 0, 0, 0, 0, [], rfl⟩
  next => exact ⟨.black, 0, 0, 0, 0, [], rfl⟩

/-- Settles O59: the last pane that covers the position writes its viewport there, whose origin is the clamp of each
axis; the record and the dispatch hand that origin on. -/
theorem takeComputesTheViewportOrigin : Obligations.TakeComputesTheViewportOrigin := by
  refine ⟨?_, fun _ _ _ => ⟨rfl, rfl⟩, State.dispatchHeader_record⟩
  intro s l n pre post pane st j g c htable hpost hsource hw hh _ hj hcol hcolEnd hrow hrowEnd ux uy x y b
  have hin : g.inPane pane j.val = true := Geometry.inPane_iff.mpr ⟨hcol, hcolEnd, hrow, hrowEnd⟩
  have hentry : b.map.get j = g.viewport pane st c.width c.height j.val :=
    (s.layouts.take_map_get_of_last_pane s.store n htable hpost (Geometry.isPosition_iff.mpr hj) hin).trans
      (s.layouts.paneEntry_of_configured s.store hsource hw hh j.val)
  refine ⟨hentry.trans (g.viewport_eq pane st c.width c.height j.val), rfl, clampOrigin_add_tile_le,
    clampOrigin_add_tile_le, clampOrigin_eq_zero, clampOrigin_eq_zero, ?_, ?_⟩
  · exact fun hw' hh' htileW htileH => ⟨clampOrigin_le_8191 hw' htileW, clampOrigin_le_8191 hh' htileH⟩
  · exact fun hx hy hcols hrows htileW hgapH htileH hgapV =>
      Geometry.unclamped_le hj hcols hrows htileW hgapH htileH hgapV hx hy

end Sys2Proof.Machine
end

section
/-! PROOFS. The frame number and the target of a stream at every commit (R64, R65): their arithmetic, what a boundary
leaves alone of a stream's advert, what stage 1 can do to its start, and what stage 2 writes. -/

namespace Sys2Proof.Machine

/-! ### The frame number and the target of a refresh (R64, R65) -/

theorem frameNumber_mono {n m : Nat} (start rate wallRate : Nat) (h : n ≤ m) :
    frameNumber n start rate wallRate ≤ frameNumber m start rate wallRate := by
  have hraw : (n - start) * rate / wallRate ≤ (m - start) * rate / wallRate :=
    Nat.div_le_div_right (Nat.mul_le_mul_right _ (Nat.sub_le_sub_right h _))
  exact Nat.le_min.mpr ⟨Nat.le_trans (Nat.min_le_left _ _) hraw, Nat.min_le_right _ _⟩

/-- A whole cycle of Rw / gcd(Rc, Rw) refreshes is worth Rc / gcd(Rc, Rw) frames exactly. -/
theorem frameNumber_add_cycle {n start rate wallRate : Nat} (hstart : start ≤ n) (hpos : 0 < wallRate)
    (hfits : (n + wallRate / Nat.gcd rate wallRate - start) * rate / wallRate ≤ maxNumber) :
    frameNumber (n + wallRate / Nat.gcd rate wallRate) start rate wallRate =
      frameNumber n start rate wallRate + rate / Nat.gcd rate wallRate := by
  have hcycle : wallRate / Nat.gcd rate wallRate * rate = wallRate * (rate / Nat.gcd rate wallRate) := by
    rw [Nat.div_mul_right_comm (Nat.gcd_dvd_right ..), Nat.mul_div_assoc _ (Nat.gcd_dvd_left ..)]
  have hraw : (n + wallRate / Nat.gcd rate wallRate - start) * rate / wallRate =
      (n - start) * rate / wallRate + rate / Nat.gcd rate wallRate := by
    rw [Nat.sub_add_comm hstart, Nat.add_mul, hcycle, Nat.add_mul_div_left _ _ hpos]
  rw [hraw] at hfits
  rw [frameNumber, frameNumber, hraw, Nat.min_eq_left hfits, Nat.min_eq_left (Nat.le_of_add_right_le hfits)]

theorem targetOf_eq (mode : EndMode) (length c : Nat) :
    targetOf mode length c = if mode = .loop then c else min c (length - 1) := by
  cases mode <;> rfl

theorem targetOf_mono (mode : EndMode) (length : Nat) {c d : Nat} (h : c ≤ d) :
    targetOf mode length c ≤ targetOf mode length d := by
  cases mode with
  | loop => exact h
  | hold => exact Nat.le_min.mpr ⟨Nat.le_trans (Nat.min_le_left _ _) h, Nat.min_le_right _ _⟩

/-- The loop count rises in LOOP mode alone, and the ended flag once set stays (R66, R67). -/
theorem Timeline.advance_eq (t : Timeline) (n wallRate : Nat) :
    let c := t.number n wallRate
    t.advance n wallRate = { t with
      latestRefresh := some n, latestNumber := some c, latestTarget := some (t.target n wallRate)
      loops := if t.mode = .loop ∧ t.loops < c / t.length then c / t.length else t.loops
      ended := t.ended || decide (t.mode = .hold ∧ t.length - 1 ≤ c) } := by
  intro c
  have hwraps : t.wraps c = true ↔ t.mode = .loop ∧ t.loops < c / t.length := by simp [wraps]
  have hended : (t.ended || t.ends c) = (t.ended || decide (t.mode = .hold ∧ t.length - 1 ≤ c)) := by
    cases h : t.ended <;> simp [ends, h, Bool.beq_eq_decide_eq]
  simp only [advance, c, hwraps, hended]

/-- A frame of the current generation past the end of a HOLD advert never enters the queue (R80). -/
theorem FrameStore.fate_past_end {fs : FrameStore} {f : Frame} {len : Nat}
    (hgen : (fs.streams.get f.stream).currentGen = some f.gen)
    (hmode : (fs.streams.get f.stream).currentMode = some .hold)
    (hlen : (fs.streams.get f.stream).currentLength = some len) (hpos : 0 < len) (hpast : len ≤ f.number) :
    fs.fate f = .stale ∨ fs.fate f = .late := by
  have hlast : len - 1 < f.number := by omega
  simp only [fate, stream, hgen, hmode, hlen, Option.any_some, hlast, decide_true, and_self, if_true]
  split
  · exact .inl rfl
  · split
    · exact .inl rfl
    · split
      · exact .inr rfl
      · exact .inl rfl

/-! ### One step of a `forEach` -/

/-- Of the steps of a `forEach` only step `i` carries `P` to `Q`; the others keep both. -/
theorem forEach_at {σ : Type} {n : Nat} {f : Fin n → σ → σ} (P Q : σ → Prop) (i : Fin n)
    (hP : ∀ j, j ≠ i → ∀ s, P s → P (f j s)) (hstep : ∀ s, P s → Q (f i s))
    (hQ : ∀ j, j ≠ i → ∀ s, Q s → Q (f j s)) {s : σ} (hs : P s) : Q (forEach n f s) := by
  obtain ⟨before, after, hsplit⟩ := List.append_of_mem (List.mem_finRange i)
  have hnodup : (before ++ i :: after).Nodup := hsplit ▸ List.nodup_finRange n
  have hbefore : i ∉ before := fun h => (List.nodup_append.mp hnodup).2.2 i h i List.mem_cons_self rfl
  have hafter : i ∉ after := (List.nodup_cons.mp (List.nodup_append.mp hnodup).2.1).1
  rw [forEach, hsplit, List.foldl_append, List.foldl_cons]
  have hreached := List.foldlRecOn (motive := P) before _ hs
    fun s hs j hj => hP j (ne_of_mem_of_not_mem hj hbefore) s hs
  exact List.foldlRecOn (motive := Q) after _ (hstep _ hreached)
    fun s hs j hj => hQ j (ne_of_mem_of_not_mem hj hafter) s hs

namespace State

/-! ### The commit values a firing leaves alone (R145, R153) -/

@[simp] theorem changeMark_values (c : MarkChange) (k : TriggerId) (s : State) :
    (s.changeMark c k).triggers.values = s.triggers.values := by
  unfold changeMark retakeLast
  dsimp only
  split <;> simp

@[simp] theorem firingMarks_values (part : Option MarksPart) (s : State) :
    (s.firingMarks part).triggers.values = s.triggers.values := by
  unfold firingMarks
  split
  · rfl
  · refine forEach_same (·.triggers.values) (fun k s => ?_) s
    split
    · exact changeMark_values _ k s
    · rfl

@[simp] theorem firingTimers_values (k : TriggerId) (part : Option (TimerAct × TimerAct)) (s : State) :
    (s.firingTimers k part).triggers.values = s.triggers.values := by
  unfold firingTimers
  split <;> rfl

@[simp] theorem firingLines_triggers (part : Option LinesPart) (s : State) :
    (s.firingLines part).triggers = s.triggers := by
  unfold firingLines
  split <;> rfl

@[simp] theorem firingPost_values (k : TriggerId) (part : Option PostPart) (s : State) :
    (s.firingPost k part).triggers.values = s.triggers.values := by
  unfold firingPost
  split
  · rfl
  · split <;> rfl

@[simp] theorem notifyTrigger_triggers (k : TriggerId) (n : Notice) (s : State) :
    (s.notifyTrigger k n).triggers = s.triggers := notifyTrigger_same (·.triggers) (fun _ _ _ => rfl) k n s

@[simp] theorem fireSteps_values (k : TriggerId) (src : FireSource) (s : State) :
    (s.fireSteps k src).triggers.values = s.triggers.values := by simp [fireSteps]

@[simp] theorem fire_values (k : TriggerId) (src : FireSource) (s : State) :
    (s.fire k src).triggers.values = s.triggers.values := by
  refine Eq.trans ?_ (fireSteps_values k src s)
  unfold fire fireChain
  dsimp only
  split
  · rfl
  · refine forEach_same (fun s : State => s.triggers.values) (fun i s => ?_) _
    split
    · exact fireSteps_values i _ s
    · rfl

@[simp] theorem react_values (e : Stimulus) (s : State) : (s.react e).triggers.values = s.triggers.values := by
  refine forEach_same (·.triggers.values) (fun k s => ?_) s
  unfold reactOne
  dsimp only
  split
  · split <;> simp
  · split <;> simp

@[simp] theorem setError_values (c : ErrorCause) (s : State) :
    (s.setError c).triggers.values = s.triggers.values := by
  unfold setError disableAll
  dsimp only
  split <;> rfl

end State

/-! ### What the block keeps of a stream's advert -/

/-- What a commit reads and writes for the advert of one stream (R64 to R69): Wall Timing, the cues, the timeline, what
waits for the Frame Store Controller, and the values handed to the Trigger Unit. -/
structure AdvertRow where
  wall : WallTiming
  cues : CueStore
  timeline : Option Timeline
  handoffs : List Handoff
  values : Option CommitValues

namespace State

def advertRow (st : StreamId) (s : State) : AdvertRow :=
  { wall := s.wall, cues := s.cues, timeline := s.adverts.get st, handoffs := s.plan.handoffs.get st,
    values := s.triggers.values.get st }

section AdvertRow

variable (st : StreamId) (s : State)

@[simp] theorem advertRow_wall : (s.advertRow st).wall = s.wall := rfl
@[simp] theorem advertRow_timeline : (s.advertRow st).timeline = s.adverts.get st := rfl
@[simp] theorem advertRow_handoffs : (s.advertRow st).handoffs = s.plan.handoffs.get st := rfl
@[simp] theorem advertRow_values : (s.advertRow st).values = s.triggers.values.get st := rfl

@[simp] theorem modTiles_advertRow (f : Table 24 Tile → Table 24 Tile) :
    (s.modTiles f).advertRow st = s.advertRow st := rfl
@[simp] theorem modTile_advertRow (j : TileId) (f : Tile → Tile) : (s.modTile j f).advertRow st = s.advertRow st := rfl
@[simp] theorem modLines_advertRow (f : LineBlock → LineBlock) : (s.modLines f).advertRow st = s.advertRow st := rfl
@[simp] theorem modConsole_advertRow (f : Console → Console) : (s.modConsole f).advertRow st = s.advertRow st := rfl

theorem modPlan_advertRow {f : Plan → Plan} (h : (f s.plan).handoffs = s.plan.handoffs) :
    (s.modPlan f).advertRow st = s.advertRow st := by
  simp [advertRow, h]

@[simp] theorem setNewest_advertRow (k : Option Nat) :
    (s.modPlan fun p => { p with newest := k }).advertRow st = s.advertRow st := rfl

@[simp] theorem addEntry_advertRow (e : PlanEntry) :
    (s.modPlan fun p => { p with entries := p.entries ++ [e] }).advertRow st = s.advertRow st := rfl

@[simp] theorem prune_advertRow (newest : Option Nat) : (s.modPlan (Plan.prune newest)).advertRow st = s.advertRow st :=
  rfl

@[simp] theorem forceComplete_advertRow (m : Nat) : (s.modPlan (Plan.forceComplete m)).advertRow st = s.advertRow st :=
  rfl

@[simp] theorem stepRamp_advertRow (n : Nat) : (s.modPlan (Plan.stepRamp n)).advertRow st = s.advertRow st := by
  refine s.modPlan_advertRow st ?_
  unfold Plan.stepRamp
  split
  · rfl
  · dsimp only
    split <;> rfl

@[simp] theorem raise_advertRow (p : PortId) (k : Notice) : (s.raise p k).advertRow st = s.advertRow st := by
  simp [advertRow]

@[simp] theorem raiseBoth_advertRow (k : Notice) : (s.raiseBoth k).advertRow st = s.advertRow st := by
  simp [advertRow]

@[simp] theorem react_advertRow (e : Stimulus) : (s.react e).advertRow st = s.advertRow st := by
  simp [advertRow]

@[simp] theorem setError_advertRow (c : ErrorCause) : (s.setError c).advertRow st = s.advertRow st := by
  simp [advertRow]

/-! ### The tile controllers leave every advert alone -/

@[simp] theorem pump_advertRow (j : TileId) : (s.pump j).advertRow st = s.advertRow st := by
  unfold pump
  split
  · rfl
  · split <;> rfl

@[simp] theorem serveTile_advertRow (j : TileId) : (s.serveTile j).advertRow st = s.advertRow st :=
  (pump_advertRow st _ j).trans rfl

@[simp] theorem serveAll_advertRow : s.serveAll.advertRow st = s.advertRow st :=
  forEach_same (advertRow st) (fun j s => s.serveTile_advertRow st j) s

@[simp] theorem leaveLive_advertRow (j : TileId) : (s.leaveLive j).advertRow st = s.advertRow st := rfl

@[simp] theorem faultTile_advertRow (j : TileId) (r : FaultReason) :
    (s.faultTile j r).advertRow st = s.advertRow st := by
  unfold faultTile
  dsimp only
  split <;> simp

@[simp] theorem overrun_advertRow (j : TileId) (m : Nat) : (s.overrun j m).advertRow st = s.advertRow st := by
  unfold overrun
  dsimp only
  split
  · rfl
  · exact (pump_advertRow st _ j).trans rfl

@[simp] theorem countMiss_advertRow (j : TileId) : (s.countMiss j).advertRow st = s.advertRow st := by
  unfold countMiss
  dsimp only
  split
  · split <;> rfl
  · split <;> simp

@[simp] theorem judgeDeadline_advertRow (j : TileId) (m : Nat) :
    (s.judgeDeadline j m).advertRow st = s.advertRow st := by
  unfold judgeDeadline
  split <;> simp

@[simp] theorem takeDispatch_advertRow (j : TileId) (m : Nat) : (s.takeDispatch j m).advertRow st = s.advertRow st := by
  unfold takeDispatch
  dsimp only
  split
  · rfl
  · simp [addDispatch]

@[simp] theorem tileBoundary_advertRow (m : Nat) (j : TileId) : (s.tileBoundary m j).advertRow st = s.advertRow st := by
  unfold tileBoundary
  dsimp only
  by_cases hlive : s.live j
  · rw [if_pos hlive]
    split <;> simp
  · simp [hlive]

end AdvertRow

/-! ### What stage 1 can do to the start of an advert (R60, R61, R96) -/

section Retire

variable {τ : Type} (m : State → τ) (hcues : ∀ s f, m (modCues f s) = m s) (hplan : ∀ s f, m (modPlan f s) = m s)
  (hstore : ∀ s f, m (modStore f s) = m s) (hport : ∀ s p k, m (modPort p (Port.enter k) s) = m s)

include hplan hstore in
theorem handOn_same (st : StreamId) (h : Handoff) (s : State) : m (s.handOn st h) = m s := by
  unfold handOn
  dsimp only
  split
  · exact hplan s _
  · exact hstore s _

include hplan hstore in
theorem handPending_same (st : StreamId) (gen : Option Nat) (s : State) : m (s.handPending st gen) = m s :=
  (hstore _ _).trans (hplan s _)

include hcues in
theorem recomputeBy_same {hand : Option Nat → State → State} (hhand : ∀ gen s, m (hand gen s) = m s) (st : StreamId)
    (s : State) : m (s.recomputeBy hand st) = m s := by
  unfold recomputeBy
  dsimp only
  split
  · rfl
  · exact (hhand _ _).trans (hcues s _)

include hport in
theorem notifyCue_same (o : Owner) (s : State) : m (s.notifyCue o) = m s := by
  unfold notifyCue
  split
  · exact raise_same m hport _ _ s
  · rfl
  · exact notifyTrigger_same m hport _ _ s

include hcues hport in
theorem retireBy_same {recompute : StreamId → State → State} (hrecompute : ∀ st s, m (recompute st s) = m s) (c : Cue)
    (outcome : CueOutcome) (refresh : Option Nat) (s : State) :
    m (s.retireBy recompute c outcome refresh) = m s := by
  have hnotify : ∀ (b : Bool) (s : State), m (if b then s.notifyCue c.owner else s) = m s := by
    intro b s
    split
    · exact notifyCue_same m hport _ s
    · rfl
  unfold retireBy
  dsimp only
  split
  · exact (hrecompute _ _).trans ((hnotify _ _).trans (hcues s _))
  · exact (hnotify _ _).trans (hcues s _)

include hcues hplan hstore hport in
/-- A reader that neither the cues, the plan, the frame store nor an entered notice reaches is unchanged by the retiring
of a cue. -/
theorem retire_same (c : Cue) (outcome : CueOutcome) (refresh : Option Nat) (s : State) :
    m (s.retire c outcome refresh) = m s :=
  retireBy_same m hcues hport (fun st => recomputeBy_same m hcues (handPending_same m hplan hstore st) st)
    c outcome refresh s

include hcues hplan hstore hport in
theorem retireApplied_same (c : Cue) (outcome : CueOutcome) (refresh : Option Nat) (s : State) :
    m (s.retireApplied c outcome refresh) = m s :=
  retireBy_same m hcues hport (fun st => recomputeBy_same m hcues (fun _ => handOn_same m hplan hstore st _) st)
    c outcome refresh s

include hcues hplan hstore hport in
theorem supersede_same (n : Nat) (k : CueKind) (s : State) : m (s.supersede n k) = m s :=
  foldl_same m (fun s c => retire_same m hcues hplan hstore hport c _ _ s) _ s

end Retire

@[simp] theorem retire_wall (c : Cue) (o : CueOutcome) (r : Option Nat) (s : State) : (s.retire c o r).wall = s.wall :=
  retire_same (·.wall) (fun _ _ => rfl) (fun _ _ => rfl) (fun _ _ => rfl) (fun _ _ _ => rfl) c o r s
@[simp] theorem retire_adverts (c : Cue) (o : CueOutcome) (r : Option Nat) (s : State) :
    (s.retire c o r).adverts = s.adverts :=
  retire_same (·.adverts) (fun _ _ => rfl) (fun _ _ => rfl) (fun _ _ => rfl) (fun _ _ _ => rfl) c o r s
@[simp] theorem retireApplied_wall (c : Cue) (o : CueOutcome) (r : Option Nat) (s : State) :
    (s.retireApplied c o r).wall = s.wall :=
  retireApplied_same (·.wall) (fun _ _ => rfl) (fun _ _ => rfl) (fun _ _ => rfl) (fun _ _ _ => rfl) c o r s
@[simp] theorem retireApplied_adverts (c : Cue) (o : CueOutcome) (r : Option Nat) (s : State) :
    (s.retireApplied c o r).adverts = s.adverts :=
  retireApplied_same (·.adverts) (fun _ _ => rfl) (fun _ _ => rfl) (fun _ _ => rfl) (fun _ _ _ => rfl) c o r s
@[simp] theorem supersede_wall (n : Nat) (k : CueKind) (s : State) : (s.supersede n k).wall = s.wall :=
  supersede_same (·.wall) (fun _ _ => rfl) (fun _ _ => rfl) (fun _ _ => rfl) (fun _ _ _ => rfl) n k s
@[simp] theorem supersede_adverts (n : Nat) (k : CueKind) (s : State) : (s.supersede n k).adverts = s.adverts :=
  supersede_same (·.adverts) (fun _ _ => rfl) (fun _ _ => rfl) (fun _ _ => rfl) (fun _ _ _ => rfl) n k s
@[simp] theorem handOn_wall (st : StreamId) (h : Handoff) (s : State) : (s.handOn st h).wall = s.wall :=
  handOn_same (·.wall) (fun _ _ => rfl) (fun _ _ => rfl) st h s
@[simp] theorem handOn_adverts (st : StreamId) (h : Handoff) (s : State) : (s.handOn st h).adverts = s.adverts :=
  handOn_same (·.adverts) (fun _ _ => rfl) (fun _ _ => rfl) st h s

@[simp] theorem commitWall_adverts (w : WallState) (s : State) : (s.commitWall w).adverts = s.adverts := by
  unfold commitWall
  split <;> simp

/-- A commit may change the wall state, and no timing. -/
@[simp] theorem commitWall_rate (w : WallState) (s : State) : (s.commitWall w).wall.rate = s.wall.rate := by
  unfold commitWall
  split <;> simp

@[simp] theorem startAdvert_wall (n : Nat) (st : StreamId) (gen rate length : Nat) (mode : EndMode) (id : Nat)
    (s : State) : (s.startAdvert n st gen rate length mode id).wall = s.wall := by
  unfold startAdvert
  split
  · split <;> simp
  · simp

/-- A START ADVERT starts its stream's timeline, new or restarted, at the refresh of its commit. -/
theorem startAdvert_adverts (n : Nat) (st : StreamId) (gen rate length : Nat) (mode : EndMode) (id : Nat) (s : State) :
    ∃ x : Timeline, x.start = n ∧ (s.startAdvert n st gen rate length mode id).adverts = s.adverts.set st (some x) := by
  unfold startAdvert
  split
  next t _ =>
    split
    · exact ⟨t.restarted n rate length mode id, rfl, by simp⟩
    · exact ⟨.begun n gen rate length mode id, rfl, by simp⟩
  · exact ⟨.begun n gen rate length mode id, rfl, by simp⟩

/-- Stage 1 of refresh `n` keeps this at every cue: the wall rate is `rate`, and an advert of stream `st` is the one it
was, `former`, or starts at `n`. -/
structure Started (n rate : Nat) (st : StreamId) (former : Option Timeline) (s : State) : Prop where
  rate : s.wall.rate = rate
  start : ∀ x, s.adverts.get st = some x → former = some x ∨ x.start = n

section Started

variable {n rate : Nat} {st : StreamId} {former : Option Timeline} {s t : State}

theorem Started.congr (h : s.Started n rate st former) (hrate : t.wall.rate = s.wall.rate)
    (hadverts : t.adverts = s.adverts) : t.Started n rate st former where
  rate := hrate.trans h.rate
  start := by
    rw [hadverts]
    exact h.start

theorem Started.startAdvert (h : s.Started n rate st former) (i : StreamId) (gen rc length : Nat) (mode : EndMode)
    (id : Nat) :
    (s.startAdvert n i gen rc length mode id).Started n rate st former where
  rate := by rw [startAdvert_wall, h.rate]
  start := by
    obtain ⟨x, hx, hset⟩ := s.startAdvert_adverts n i gen rc length mode id
    intro y hy
    rw [hset, Table.get_set] at hy
    split at hy
    · cases hy
      exact .inr hx
    · exact h.start y hy

theorem Started.applyKind (h : s.Started n rate st former) (before : Nat) (c : Cue) :
    (s.applyKind n before c).Started n rate st former := by
  unfold State.applyKind
  split
  case h_1 => exact h.congr rfl rfl
  case h_2 => exact h.startAdvert ..
  case h_3 => exact h.congr rfl rfl
  case h_4 => exact h.congr (by simp) (by simp)
  case h_5 => exact h.congr (by simp) (by simp)
  case h_6 => exact h.congr (by simp) (by simp)

theorem Started.applyCue (h : s.Started n rate st former) (before : Nat) (c : Cue) (o : CueOutcome) :
    (s.applyCue n before c o).Started n rate st former :=
  (h.applyKind before c).congr (by simp [State.applyCue]) (by simp [State.applyCue])

theorem Started.takeCue (h : s.Started n rate st former) (before id : Nat) :
    (s.takeCue n before id).Started n rate st former := by
  unfold State.takeCue
  split
  · exact h
  · split
    · exact h.applyCue ..
    · split
      · exact h.applyCue ..
      · split
        · exact h.congr rfl rfl
        · split
          · exact h.applyCue ..
          · exact h.congr (by simp) (by simp)

theorem Started.applyDue (h : s.Started n rate st former) : (s.applyDue n).Started n rate st former := by
  unfold State.applyDue
  generalize (s.cues.list.filter _).map _ = ids
  generalize s.plan.level = before
  induction ids generalizing s with
  | nil => exact h
  | cons id ids ih => exact ih (h.takeCue before id)

end Started

/-- With no due cue stage 1 does nothing. -/
theorem applyDue_of_none_due {n : Nat} {s : State} (h : ∀ c ∈ s.cues.list, ∀ d, c.due = some d → n < d) :
    s.applyDue n = s := by
  have hnone : (s.cues.list.filter fun c => c.due.any fun d => decide (d ≤ n)) = [] := by
    refine List.filter_eq_nil_iff.mpr fun c hc hdue => ?_
    obtain ⟨d, hd, hle⟩ := (Option.any_eq_true _ _).mp hdue
    exact absurd (h c hc d hd) (Nat.not_lt.mpr (of_decide_eq_true hle))
  rw [applyDue, hnone]
  rfl

/-! ### What stage 2 writes for an advert (R64, R65, R68) -/

/-- Row `r'` is what stage 2 of refresh `n` makes of row `r` of a stream whose current advert is `x`. -/
structure Advanced (n : Nat) (x : Timeline) (r r' : AdvertRow) : Prop where
  wall : r'.wall = r.wall
  timeline : r'.timeline = some (x.advance n r.wall.rate)
  values : ∃ v, r'.values = some v ∧ v.refresh = n ∧ v.number = x.number n r.wall.rate ∧
    v.target = x.target n r.wall.rate
  picked : r.wall.state ≠ .dark →
    ∃ tiles, r'.handoffs = r.handoffs ++ [.pick n x.gen (x.target n r.wall.rate) tiles]
  dark : r.wall.state = .dark → r'.handoffs = r.handoffs

section Stage2

variable (n : Nat) (st i : StreamId) (s : State)

/-- The events of an advert leave every row alone. -/
@[simp] theorem advertEvents_advertRow (wraps ends : Bool) :
    (s.advertEvents i wraps ends).advertRow st = s.advertRow st := by
  unfold advertEvents
  cases wraps <;> cases ends <;> simp

/-- A pick waits behind all that was handed on before it (R102). -/
theorem handOn_pick (gen target tiles : Nat) : s.handOn i (.pick n gen target tiles) =
    s.modPlan fun p =>
      { p with handoffs := p.handoffs.set i (s.plan.handoffs.get i ++ [.pick n gen target tiles]) } := rfl

/-- The timeline of stream `i` and its commit values written, with the events between them. -/
theorem writeAdvert_advertRow (x : Timeline) (v : CommitValues) (wraps ends : Bool) :
    ((((s.modAdverts fun a => a.set i (some x)).advertEvents i wraps ends).modTriggers fun u =>
      { u with values := u.values.set i (some v) }).react (.values i)).advertRow st =
    if st = i then { s.advertRow i with timeline := some x, values := some v } else s.advertRow st := by
  rw [react_advertRow]
  have hevents := advertEvents_advertRow st i (s.modAdverts fun a => a.set i (some x)) wraps ends
  simp only [advertRow, AdvertRow.mk.injEq, modAdverts_wall, modAdverts_cues, modAdverts_adverts, modAdverts_plan,
    modAdverts_triggers, modTriggers_wall, modTriggers_cues, modTriggers_adverts, modTriggers_plan,
    modTriggers_triggers, Table.get_set] at hevents ⊢
  obtain ⟨hwall, hcues, hadverts, hplan, hvalues⟩ := hevents
  rw [hwall, hcues, hadverts, hplan, hvalues]
  split
  · next h => rw [h]
  · rfl

theorem computeAdvert_of_none {i : StreamId} {s : State} (h : s.adverts.get i = none) : s.computeAdvert n i = s := by
  rw [computeAdvert, h]

/-- Stage 2 at a current advert: its timeline and commit values are written, and then its pick is handed on, but for a
DARK wall. -/
theorem computeAdvert_of_some {i : StreamId} {s : State} {x : Timeline} (h : s.adverts.get i = some x) :
    ∃ (u : State) (v : CommitValues) (tiles : Nat),
      v.refresh = n ∧ v.number = x.number n s.wall.rate ∧ v.target = x.target n s.wall.rate ∧
      (∀ st, u.advertRow st = if st = i then
        { s.advertRow i with timeline := some (x.advance n s.wall.rate), values := some v } else s.advertRow st) ∧
      s.computeAdvert n i = if s.wall.state = .dark then u else
        u.handOn i (.pick n x.gen (x.target n s.wall.rate) tiles) := by
  have hevents : ∀ wraps ends,
      ((s.modAdverts fun a => a.set i (some (x.advance n s.wall.rate))).advertEvents i wraps ends).wall = s.wall :=
    fun wraps ends => congrArg AdvertRow.wall (advertEvents_advertRow i i _ wraps ends)
  rw [computeAdvert, h]
  dsimp only
  rw [react_wall, modTriggers_wall, hevents]
  exact ⟨_, _, _, rfl, rfl, rfl, fun st => writeAdvert_advertRow st i s _ _ _ _, rfl⟩

/-- Stage 2 takes each stream alone. -/
theorem computeAdvert_advertRow_ne {st i : StreamId} (h : st ≠ i) :
    (s.computeAdvert n i).advertRow st = s.advertRow st := by
  cases hadvert : s.adverts.get i with
  | none => rw [computeAdvert_of_none n hadvert]
  | some x =>
    obtain ⟨u, v, tiles, -, -, -, hrow, he⟩ := computeAdvert_of_some n hadvert
    rw [he, ← (hrow st).trans (if_neg h)]
    split
    · rfl
    · simp [handOn_pick, advertRow, Table.get_set_ne _ _ h]

theorem computeAdvert_advanced {st : StreamId} {s : State} {x : Timeline} (h : s.adverts.get st = some x) :
    Advanced n x (s.advertRow st) ((s.computeAdvert n st).advertRow st) := by
  obtain ⟨u, v, tiles, hrefresh, hnumber, htarget, hrow, he⟩ := computeAdvert_of_some n h
  have hself := (hrow st).trans (if_pos rfl)
  have hhand := congrArg AdvertRow.handoffs hself
  rw [he]
  split
  next hdark =>
    rw [hself]
    exact ⟨rfl, rfl, ⟨v, rfl, hrefresh, hnumber, htarget⟩, fun hne => absurd hdark hne, fun _ => rfl⟩
  next hlit =>
    have hpick : (u.handOn st (.pick n x.gen (x.target n s.wall.rate) tiles)).advertRow st =
        { u.advertRow st with handoffs :=
          (u.advertRow st).handoffs ++ [.pick n x.gen (x.target n s.wall.rate) tiles] } := by
      simp [handOn_pick, advertRow]
    rw [hpick, hself]
    exact ⟨rfl, rfl, ⟨v, rfl, hrefresh, hnumber, htarget⟩, fun _ => ⟨tiles, rfl⟩, fun hdark => absurd hdark hlit⟩

/-- Stage 2 advances a current advert once. -/
theorem forEach_computeAdvert_advanced {st : StreamId} {s : State} {x : Timeline} (h : s.adverts.get st = some x) :
    Advanced n x (s.advertRow st) ((forEach 8 (computeAdvert n) s).advertRow st) := by
  refine forEach_at (fun t : State => t.advertRow st = s.advertRow st)
    (fun t : State => Advanced n x (s.advertRow st) (t.advertRow st)) st ?_ ?_ ?_ rfl
  · exact fun i hi t ht => (t.computeAdvert_advertRow_ne n hi.symm).trans ht
  · intro t ht
    rw [← ht]
    exact computeAdvert_advanced n ((congrArg AdvertRow.timeline ht).trans h)
  · intro i hi t ht
    rwa [t.computeAdvert_advertRow_ne n hi.symm]

theorem forEach_computeAdvert_of_none {st : StreamId} {s : State} (h : s.adverts.get st = none) :
    (forEach 8 (computeAdvert n) s).adverts.get st = none := by
  refine forEach_keeps (fun t : State => t.adverts.get st = none) (fun i t ht => ?_) h
  by_cases hi : st = i
  · rw [← hi, computeAdvert_of_none n ht, ht]
  · exact (congrArg AdvertRow.timeline (t.computeAdvert_advertRow_ne n hi)).trans ht

end Stage2

/-! ### The boundary that commits (R11, R95) -/

/-- After stage 2 a commit leaves the rows alone. -/
theorem commit_advertRow (n : Nat) (st : StreamId) (s : State) : (s.commit n).advertRow st =
    (forEach 8 (computeAdvert n) ((s.modPlan fun p => { p with newest := some n }).applyDue n)).advertRow st := by
  rw [commit, serveAll_advertRow, react_advertRow, modLines_advertRow, addEntry_advertRow, stepRamp_advertRow]

/-- The Cut Engine reaches the rows by the two stages alone: stage 1 finds them as they were. -/
theorem cutBoundary_advertRow (m : Nat) (s : State) :
    ∃ u : State, (∀ st, u.advertRow st = s.advertRow st) ∧ ∀ st, (s.cutBoundary m).advertRow st =
      (forEach 8 (computeAdvert (m + s.wall.horizon)) (u.applyDue (m + s.wall.horizon))).advertRow st := by
  have hserved : ∀ st, (s.modPlan (Plan.forceComplete m)).serveAll.advertRow st = s.advertRow st :=
    fun st => (serveAll_advertRow st _).trans (forceComplete_advertRow st s m)
  refine ⟨(s.modPlan (Plan.forceComplete m)).serveAll.modPlan fun p => { p with newest := some (m + s.wall.horizon) },
    fun st => (setNewest_advertRow st _ _).trans (hserved st), fun st => ?_⟩
  rw [cutBoundary, commit_advertRow]

/-- What a boundary does besides its commit leaves every advert alone. -/
theorem announceBoundary_advertRow (early : BitVec 24) (m : Nat) (s : State) :
    ∃ u : State, (∀ st, u.advertRow st = { s.advertRow st with wall := { s.wall with newest := some m } }) ∧
      ∀ st, (s.announceBoundary early m).advertRow st =
        (forEach 8 (computeAdvert (m + s.wall.horizon)) (u.applyDue (m + s.wall.horizon))).advertRow st := by
  let a := forEach 24 (fun j s => if early.getLsbD j then s.tileBoundary m j else s)
    (s.modWall fun w => { w with newest := some m })
  have hearly : ∀ st, a.advertRow st = { s.advertRow st with wall := { s.wall with newest := some m } } :=
    fun st => forEach_same (advertRow st) (fun j s => by split <;> simp) _
  have hhorizon : a.wall.horizon = s.wall.horizon := congrArg (fun r => r.wall.horizon) (hearly 0)
  have hlate : ∀ st (t : State),
      (forEach 24 (fun j s => if early.getLsbD j then s else s.tileBoundary m j) t).advertRow st = t.advertRow st :=
    fun st => forEach_same (advertRow st) fun j s => by split <;> simp
  obtain ⟨u, hu, hcut⟩ := a.cutBoundary_advertRow m
  refine ⟨u, fun st => (hu st).trans (hearly st), fun st => ?_⟩
  rw [← hhorizon, ← hcut st, announceBoundary, sendSync, modTiles_advertRow, react_advertRow, modLines_advertRow,
    prune_advertRow, hlate]

/-- With no cue due, a boundary advances the advert it finds. -/
theorem announceBoundary_advanced_of_none_due (early : BitVec 24) {m n : Nat} {st : StreamId} {s : State} {x : Timeline}
    (hn : n = m + s.wall.horizon) (hcues : ∀ c ∈ s.cues.list, ∀ d, c.due = some d → n < d)
    (hx : s.adverts.get st = some x) :
    Advanced n x { s.advertRow st with wall := { s.wall with newest := some m } }
      ((s.announceBoundary early m).advertRow st) := by
  subst hn
  obtain ⟨u, hu, hrow⟩ := s.announceBoundary_advertRow early m
  have hux : u.adverts.get st = some x := Eq.trans (congrArg (·.timeline) (hu st)) hx
  have hucues : u.cues = s.cues := congrArg (·.cues) (hu st)
  rw [hrow, applyDue_of_none_due (hucues ▸ hcues), ← hu]
  exact forEach_computeAdvert_advanced _ hux

/-- Whatever cues its commit applies, a boundary advances the advert they leave: the one it found, or one that starts at
the refresh committed. -/
theorem announceBoundary_advanced (early : BitVec 24) {m n : Nat} {st : StreamId} {s : State} {y : Timeline}
    (hn : n = m + s.wall.horizon) (hy : (s.announceBoundary early m).adverts.get st = some y) :
    ∃ (x : Timeline) (r : AdvertRow), r.wall.rate = s.wall.rate ∧ (s.adverts.get st = some x ∨ x.start = n) ∧
      Advanced n x r ((s.announceBoundary early m).advertRow st) := by
  subst hn
  obtain ⟨u, hu, hrow⟩ := s.announceBoundary_advertRow early m
  have hstarted : u.Started (m + s.wall.horizon) s.wall.rate st (s.adverts.get st) :=
    ⟨congrArg (·.wall.rate) (hu st), fun x hx => .inl ((congrArg (·.timeline) (hu st)).symm.trans hx)⟩
  obtain ⟨hrate, hstart⟩ := hstarted.applyDue
  rw [← advertRow_timeline, hrow] at hy
  cases hx : (u.applyDue (m + s.wall.horizon)).adverts.get st with
  | none =>
    rw [advertRow_timeline, forEach_computeAdvert_of_none _ hx] at hy
    exact absurd hy nofun
  | some x =>
    rw [hrow]
    exact ⟨x, _, hrate, hstart x hx, forEach_computeAdvert_advanced _ hx⟩

/-- A boundary that is due while the wall runs is announced (R11). -/
theorem exec_boundary_due {s : State} {early : BitVec 24} {e m : Nat} (hrest : s.AtRest)
    (hm : (s.wall.newest.map (· + 1)).getD 0 = m) (hwall : s.wall.state = .running ∨ s.wall.state = .dark)
    (hepoch : s.wall.epoch = some e) (hdue : e + m * s.period ≤ s.wall.clock) :
    exec (.boundary early) s = .next (s.announceBoundary early m).settle := by
  have hnext : s.nextBoundary = m := by
    rw [← hm]
    unfold nextBoundary
    split <;> simp [*]
  have hruns : s.wallRuns = true := by simp [wallRuns, hwall]
  have hboundary : s.boundaryDue = true := by simp [boundaryDue, hepoch, hnext, hdue]
  show execBoundary early s = _
  simp [execBoundary, change, hrest.released, hruns, hboundary, hnext]

end State

/-- Settles O58: the arithmetic of R64 and R65, the test of R80 that drops a frame past a HOLD advert's end, and the
boundary, whose stage 1 keeps the wall rate and starts adverts at `n` alone, and whose stage 2 advances each advert
once. -/
theorem commitComputesTheFrameNumberAndTarget : Obligations.CommitComputesTheFrameNumberAndTarget := by
  refine ⟨?_, ?_, ?_, ?_, ?_⟩
  · exact fun n m start rate wallRate hstart hle =>
      ⟨rfl, frameNumber_mono start rate wallRate hle, frameNumber_add_cycle hstart⟩
  · exact fun mode length c d hle => ⟨targetOf_eq mode length c, targetOf_mono mode length hle⟩
  · exact fun fs f len hgen hmode hlen hpos hpast => FrameStore.fate_past_end hgen hmode hlen hpos hpast
  · intro s t early st y e hrest m n hwall hepoch hdue hexec hy number target
    have ht : (s.announceBoundary early m).settle = t := by
      have hnext := (State.exec_boundary_due (m := m) hrest rfl hwall hepoch hdue).symm.trans hexec
      injection hnext
    subst ht
    rw [State.settle_adverts] at hy
    obtain ⟨x, r, hrate, hstart, hadvanced⟩ := State.announceBoundary_advanced early (n := n) rfl hy
    obtain ⟨hw, htimeline, -, hpicked, -⟩ := hadvanced
    rw [State.advertRow_timeline, hy, Option.some.injEq, hrate] at htimeline
    rw [State.advertRow_wall] at hw
    rw [hrate, State.advertRow_handoffs, ← hw] at hpicked
    subst htimeline
    refine ⟨rfl, rfl, rfl, fun hearlier => ?_, fun hrunning => ?_⟩
    · cases hstart with
      | inl hsame => exact hearlier x hsame
      | inr hnew => exact Nat.le_of_eq hnew
    · rw [State.settle_wall] at hrunning
      obtain ⟨tiles, hlast⟩ := hpicked (by rw [hrunning]; decide)
      refine ⟨tiles, ?_⟩
      rw [State.settle_plan, hlast, List.getLast?_concat]
      rfl
  · intro s early st x e hrest m n hwall hepoch hdue hcues hx number target
    have hadvanced := State.announceBoundary_advanced_of_none_due early (n := n) rfl hcues hx
    obtain ⟨-, htimeline, ⟨v, hv, hnumbers⟩, hpicked, hdark⟩ := hadvanced
    rw [State.advertRow_timeline] at htimeline
    rw [State.advertRow_values] at hv
    rw [State.advertRow_handoffs] at hpicked hdark
    refine ⟨_, State.exec_boundary_due (m := m) hrest rfl hwall hepoch hdue, ?_⟩
    rw [State.settle_adverts, State.settle_triggers, State.settle_plan]
    refine ⟨?_, ⟨v, hv, hnumbers⟩, fun hrunning => hpicked (by rw [hrunning]; decide), hdark⟩
    exact htimeline.trans (congrArg some (x.advance_eq n s.wall.rate))

end Sys2Proof.Machine
end

section
/-! PROOFS. The notice lines and the status lines (R165, R187): what they say in a state whose outputs are true, what a
raised kind enters, how every command completes, and that outputs once true stay so. -/

namespace Sys2Proof.Machine

/-! ### The kinds of a notice set (R169) -/

theorem Notice.exists_index_eq : ∀ i : Fin 8, ∃ k : Notice, k.index = i
  | 0 => ⟨.cue, rfl⟩
  | 1 => ⟨.trigger, rfl⟩
  | 2 => ⟨.tile, rfl⟩
  | 3 => ⟨.starve, rfl⟩
  | 4 => ⟨.store, rfl⟩
  | 5 => ⟨.hold, rfl⟩
  | 6 => ⟨.wall, rfl⟩
  | 7 => ⟨.advertEnd, rfl⟩

/-- Two notice sets meet just when they have a kind in common. -/
theorem and_ne_zero_iff_exists_notice (x y : BitVec 8) :
    x &&& y ≠ 0 ↔ ∃ k : Notice, x.getLsbD k.index.val = true ∧ y.getLsbD k.index.val = true := by
  constructor
  · intro hmeet
    refine Classical.byContradiction fun hnone => hmeet (BitVec.eq_of_getLsbD_eq fun i hi => ?_)
    obtain ⟨k, hk⟩ := Notice.exists_index_eq ⟨i, hi⟩
    have hki : k.index.val = i := congrArg Fin.val hk
    have hk_none : ¬(x.getLsbD i = true ∧ y.getLsbD i = true) := fun hboth => hnone ⟨k, by rwa [hki]⟩
    rw [← Bool.and_eq_true, Bool.not_eq_true] at hk_none
    rw [BitVec.getLsbD_and, hk_none]
    exact BitVec.getLsbD_zero.symm
  · rintro ⟨k, hx, hy⟩ hzero
    have hbit : (x &&& y).getLsbD k.index.val = true := by rw [BitVec.getLsbD_and, hx, hy]; rfl
    rw [hzero] at hbit
    exact absurd (BitVec.getLsbD_zero.symm.trans hbit) Bool.false_ne_true

namespace State

/-! ### What the lines say (R165, R187) -/

theorem linkUp_iff (s : State) (p : PortId) : s.linkUp p = true ↔ (s.port p).link = .up := by simp [linkUp]

theorem noticeLine_iff (s : State) (p : PortId) :
    s.noticeLine p = true ↔ (s.port p).link = .up ∧ ∃ k : Notice,
      (s.port p).notices.getLsbD k.index.val = true ∧ (s.port p).mask.getLsbD k.index.val = true := by
  rw [noticeLine, Bool.and_eq_true, linkUp_iff, bne_iff_ne, and_ne_zero_iff_exists_notice]

section Settled

variable {s t : State} (h : s.Settled)
include h

theorem Settled.notice (p : PortId) : s.pins.notice.get p = s.noticeLine p := by
  rw [show s.pins = s.outputs from h]
  cases p <;> rfl

theorem Settled.status : s.pins.status = s.statusCode := congrArg Pins.status h

/-- True outputs stay true when neither they nor what their rules compute changes. -/
theorem Settled.congr (hpins : t.pins = s.pins) (houtputs : t.outputs = s.outputs) : t.Settled :=
  hpins.trans (Eq.trans h houtputs.symm)

end Settled

/-- A code of a start-up phase shows in STARTING alone (R179). -/
theorem starting_of_statusCode_le {s : State} (h : s.statusCode ≤ 4) : s.wall.state = .starting := by
  unfold statusCode at h
  split at h
  case h_1 hstarting => exact hstarting
  case h_2 => split at h <;> omega
  all_goals omega

/-! ### A kind raised (R164) -/

theorem raise_port_of_up {s : State} {p : PortId} (k : Notice) (h : (s.port p).link = .up) :
    (s.raise p k).port p = Port.enter k (s.port p) := by
  rw [raise, if_pos ((linkUp_iff s p).2 h), modPort_port_self]

/-! ### What a sampled pin leaves of the outputs (R133) -/

theorem drivenLevel_congr {x y : Line} (hconfig : x.config = y.config) (hpulse : x.pulseCount = y.pulseCount)
    (error dark : Bool) : x.drivenLevel error dark = y.drivenLevel error dark := by
  cases x
  cases y
  cases hconfig
  cases hpulse
  rfl

/-- The outputs read of a line its settings and its pulse alone. -/
theorem modLines_outputs {s : State} {f : LineBlock → LineBlock} (hdark : (f s.lines).dark = s.lines.dark)
    (hline : ∀ l, ((f s.lines).lines.get l).config = (s.line l).config ∧
      ((f s.lines).lines.get l).pulseCount = (s.line l).pulseCount) : (s.modLines f).outputs = s.outputs := by
  have hdrive : (s.modLines f).lineDrive = s.lineDrive := by
    funext l
    obtain ⟨hconfig, hpulse⟩ := hline l
    rw [lineDrive, modLines_triggers, modLines_lines, hdark]
    exact drivenLevel_congr hconfig hpulse _ _
  have hpin : (s.modLines f).pinLevel = s.pinLevel := by
    funext l
    obtain ⟨hconfig, -⟩ := hline l
    simp only [pinLevel, hdrive, line, modLines_lines, hconfig]
  simp only [outputs, hdrive, hpin]
  rfl

theorem trackPin_outputs (l : LineId) (high : Bool) (s : State) : (s.trackPin l high).outputs = s.outputs := by
  refine modLines_outputs rfl fun i => ?_
  rw [Table.get_modify]
  split
  · next hi => rw [hi]; exact ⟨rfl, rfl⟩
  · exact ⟨rfl, rfl⟩

/-! ### The outputs of a reset part (R93, R155, R165, R179) -/

theorem reset_settled : reset.Settled := by
  unfold Settled
  decide +kernel

theorem coldReset_outputs (s : State) : s.coldReset.outputs = reset.outputs := by
  have hlines : (reset.modLines fun b => { b with lines := s.lines.lines.map coldLine }).outputs = reset.outputs := by
    refine modLines_outputs rfl fun l => ?_
    have hreset : reset.line l = Line.reset := Table.get_fill _ _
    rw [Table.get_map, hreset]
    exact ⟨rfl, rfl⟩
  exact (outputs_congr rfl rfl rfl rfl rfl rfl fun _ => ⟨rfl, rfl, rfl⟩).trans hlines

end State

/-! ### How a command completes (R179; log 3, log 4) -/

/-- A command resets the part, takes a pin while RESET is held, changes nothing, or makes a change and settles it. -/
inductive CommandEnds (s : State) : Host.Outcome State Fault Refusal → Prop
  | coldReset : CommandEnds s (.next s.coldReset)
  | tracksPin (l : LineId) (high : Bool) : CommandEnds s (.next (s.trackPin l high))
  | unchanged : CommandEnds s (.next s)
  | settled (t : State) : CommandEnds s (.next t.settle)

theorem change_ends (f : State → State) (s : State) : CommandEnds s (change f s) := by
  unfold change
  split
  · exact .unchanged
  · exact .settled (f s)

/-- Three commands have meanings of their own form; every other one is a `change`. -/
theorem exec_ends (c : Instr) (s : State) : CommandEnds s (exec c s) := by
  cases c
  case coldReset => exact .coldReset
  case resetRelease sel =>
    show CommandEnds s (execResetRelease sel s)
    unfold execResetRelease
    split
    · exact .settled _
    · exact .unchanged
  case rawLevelChange l high =>
    show CommandEnds s (execRawLevelChange l high s)
    unfold execRawLevelChange
    split
    · exact .tracksPin l high
    · exact .settled _
  all_goals exact change_ends _ s

namespace State

theorem Settled.commandEnds {s t : State} (h : s.Settled) (hc : CommandEnds s (.next t)) : t.Settled := by
  cases hc with
  | coldReset => exact reset_settled.congr rfl s.coldReset_outputs
  | tracksPin l high => exact h.congr rfl (s.trackPin_outputs l high)
  | unchanged => exact h
  | settled u => exact u.settle_quiet.outputs

/-- Every step keeps the outputs true. -/
theorem Settled.step {s t : State} (h : s.Settled) (hstep : step s = .next t) : t.Settled := by
  unfold Machine.step at hstep
  split at hstep
  · injection hstep with hst
    exact hst ▸ h
  · next c rest _ =>
    have hrest : ({ s with pending := rest } : State).Settled := h
    exact hrest.commandEnds (hstep ▸ exec_ends c _)

end State

/-- Settles O7: a settled state's lines are what R165 and R187 compute, and a command either settles what it changed or
changes nothing that the outputs read. -/
theorem noticeAndStatusLinesShowTheState : Obligations.NoticeAndStatusLinesShowTheState := by
  refine ⟨⟨?_, ?_, ?_⟩, ?_, ?_⟩
  · intro s p h
    rw [h.notice, State.noticeLine_iff]
  · exact fun s t h hstep => h.outputs.step hstep
  · exact fun s p k h => State.raise_port_of_up k h
  · intro s h
    rw [h.status]
    refine ⟨?_, ?_, ?_, ?_, ?_, State.starting_of_statusCode_le⟩ <;> intro hwall <;> simp only [State.statusCode, hwall]
  · intro s t hexec
    have ht : s.coldReset = t := by injection hexec
    rw [← ht]
    rfl

end Sys2Proof.Machine
end
